-- ==== Sys2Proof/Word.lean ====
section
/-! DEFINITION. The 18-bit word, the 12-bit address, the memory's data type, and the two groups of six one-bit flags
(00_scope.md rules R6, R13, R14). -/

namespace Sys2Proof

/-- An 18-bit word (rule R6). Source bit n (0 the most significant) is bit 17 - n of the bit vector (rule R13). -/
abbrev Word := BitVec 18

/-- A 12-bit address (rules R6, R50). -/
abbrev Addr := BitVec 12

/-- Core memory as pairs (address, word), in the canonical form of `Machine.Memory.wf`. The smallest addressable unit is
the 18-bit word (rule R31). -/
abbrev Mem := List (Nat × Word)

/-- Minus zero, 0o777777 (rule R14). -/
def minusZero : Word := BitVec.allOnes 18

/-- Six one-bit cells numbered 1 to 6: the program flags (rule R25) and the sense switches (rule R26). The spec gives them
no place in any word, so they are named cells and not a bit vector. -/
structure Six where
  one : Bool
  two : Bool
  three : Bool
  four : Bool
  five : Bool
  six : Bool
deriving DecidableEq, Repr, Inhabited

/-- All six cells 0. -/
def Six.clear : Six := ⟨false, false, false, false, false, false⟩

/-- All six cells 1. -/
def Six.full : Six := ⟨true, true, true, true, true, true⟩

end Sys2Proof
end

