-- ==== Sys2Proof/Machine/Bits.lean ====
section
/-! DEFINITION. Bits and fields in the source's numbering, and the assembly of a word from its fields (00_scope.md rule
R13, 30_encoding.md rules R80, R81, R86, R90), and the constants of the Macro assembler (rule R97). -/

namespace Sys2Proof.Machine

/-- Source bit n of an 18-bit word; for the 13 low bits of a word (bits 5 to 17) the same number n applies (rule R13). -/
def bit {v : Nat} (n : Nat) (w : BitVec v) : Bool := w.getLsbD (17 - n)

/-- The sign, bit 0 (rule R14). -/
def sign (w : Word) : Bool := bit 0 w

/-- `op = w[0:4]` (rule R81). -/
def opField (w : Word) : BitVec 5 := w.extractLsb' 13 5

/-- `i = w[5]` (rule R81). -/
def iBit (w : Word) : Bool := bit 5 w

/-- `y = w[6:17]`, the address part (rule R81). -/
def addrPart (w : Word) : Addr := w.extractLsb' 0 12

/-- Bits 5 to 17, the word less its operation code. -/
def operandBits (w : Word) : BitVec 13 := w.extractLsb' 0 13

/-- `w[0:5]`, the instruction part (rule R117). -/
def instrPart (w : Word) : BitVec 6 := w.extractLsb' 12 6

/-- `ctl = w[6:11]` (rule R90). -/
def ctlField (w : Word) : BitVec 6 := w.extractLsb' 6 6

/-- `dev = w[12:17]` (rule R90). -/
def devField (w : Word) : BitVec 6 := w.extractLsb' 0 6

/-- A word from its operation code, i-bit and address part (rule R80). -/
def mkWord (op : BitVec 5) (i : Bool) (y : Addr) : Word := op ++ BitVec.ofBool i ++ y

/-- A word from its operation code and bits 5 to 17. -/
def groupWord (op : BitVec 5) (bits : BitVec 13) : Word := op ++ bits

/-- An in-out transfer word from its wait bit, control and device fields (rule R90). -/
def iotWord (wait : Bool) (ctl dev : BitVec 6) : Word := mkWord 29 wait (ctl ++ dev)

/-- A shift/rotate word from its fields (rule R89): direction, kind, IO, AC, count mask. -/
def shiftWord (right shift io ac : Bool) (mask : BitVec 9) : Word :=
  groupWord 27 (BitVec.ofBool right ++ BitVec.ofBool shift ++ BitVec.ofBool io ++ BitVec.ofBool ac ++ mask)

/-- The number of 1 bits among the first k of v. -/
def onesBelow {v : Nat} (w : BitVec v) : Nat → Nat
  | 0 => 0
  | k + 1 => onesBelow w k + (w.getLsbD k).toNat

/-- `popcount` of a count mask (rules R14, R86). -/
def popcount (mask : BitVec 9) : Nat := onesBelow mask 9

/-- The Macro constants `1s` to `9s`, the count masks with the n low bits set (rule R97). -/
def macroCount (n : Nat) : BitVec 9 := BitVec.ofNat 9 (2 ^ n - 1)

/-- The Macro constant `i`, the i-bit (rule R97). -/
def macroI : Word := 0o010000

end Sys2Proof.Machine
end

