-- ==== Sys2Proof/Machine/Flags.lean ====
section
/-! DEFINITION. 1's complement arithmetic, the overflow conditions, and the selection of program flags and sense switches
(00_scope.md rule R14, 40_basic_instructions.md rules R111, R139, R143, 42_operate_group.md rules R163, R170,
43_skip_group.md rules R185, R187). -/

namespace Sys2Proof.Machine

/-- `add1c`: the 1's complement sum with end-around carry (rule R14). -/
def add1c (a b : Word) : Word :=
  let s := a.toNat + b.toNat
  if 2 ^ 18 ≤ s then BitVec.ofNat 18 (s + 1) else BitVec.ofNat 18 s

/-- The minus-zero replacement (rules R111, R121): 0o777777 becomes +0. -/
def plusZero (s : Word) : Word := if s = minusZero then 0 else s

/-- The overflow condition of `add`: addends of one sign, the sum of the other (rule R111). -/
def addOverflow (a b s : Word) : Bool := sign a == sign b && sign s != sign a

/-- The difference by complement, add, complement (rule R139). -/
def sub1c (a b : Word) : Word := ~~~(add1c (~~~a) b)

/-- The overflow condition of `sub`: operands of opposite sign, the result's sign not the minuend's (rule R139). -/
def subOverflow (a b r : Word) : Bool := sign a != sign b && sign r != sign a

/-- The magnitude of a word (rules R119, R133). -/
def magnitude (w : Word) : Nat := if sign w then (~~~w).toNat else w.toNat

/-- The integer a word stands for (rule R14). -/
def val (w : Word) : Int := if sign w then -((~~~w).toNat : Int) else (w.toNat : Int)

/-- Every cell of the six is 0. -/
def allZero (c : Six) : Bool := !(c.one || c.two || c.three || c.four || c.five || c.six)

/-- The cell numbered 1 to 6; a number that names none reads 0. -/
def cell (c : Six) (n : Nat) : Bool :=
  match n with
  | 1 => c.one
  | 2 => c.two
  | 3 => c.three
  | 4 => c.four
  | 5 => c.five
  | 6 => c.six
  | _ => false

/-- The condition of `szf` and `szs`: 0 selects none and contributes no condition, 1 to 6 test one cell for zero, 7 tests
that all six are zero (rules R185, R187). -/
def selectedZero (c : Six) (n : BitVec 3) : Bool :=
  if n = 0 then false else if n = 7 then allZero c else !cell c n.toNat

/-- Write v to the selected cells: 0 selects none, 1 to 6 one, 7 all six (rules R163, R170). -/
def setSelected (c : Six) (n : BitVec 3) (v : Bool) : Six :=
  match n.toNat with
  | 1 => { c with one := v }
  | 2 => { c with two := v }
  | 3 => { c with three := v }
  | 4 => { c with four := v }
  | 5 => { c with five := v }
  | 6 => { c with six := v }
  | 7 => ⟨v, v, v, v, v, v⟩
  | _ => c

end Sys2Proof.Machine
end

