-- ==== Sys2Proof/Machine/Memory.lean ====
section
/-! DEFINITION. Reading and writing core memory held as a canonical list (20_memory.md rules R50, R51, R59). -/

namespace Sys2Proof.Machine

/-- What an address that memory does not list reads as: +0. The launch supplies every word (rule R36), so this is the
model's choice of a launch image (DESIGN CHOICE, notes/assumptions/4.md). -/
def memBlank : Word := 0

/-- The word at an address (`MemRead`, rule R51). -/
def memRead (m : Mem) (a : Nat) : Word :=
  match m with
  | [] => memBlank
  | (b, x) :: r => if b = a then x else memRead r a

/-- Put a cell in its place in a list of rising addresses. -/
def memInsert (a : Nat) (v : Word) : Mem → Mem
  | [] => [(a, v)]
  | (b, x) :: r => if a < b then (a, v) :: (b, x) :: r else (b, x) :: memInsert a v r

/-- Store a word at an address (`MemWrite`, rule R51); a cell that holds what an unlisted address reads as is not listed. -/
def memWrite (m : Mem) (a : Nat) (v : Word) : Mem :=
  let rest := m.filter fun c => c.1 != a
  if v = memBlank then rest else memInsert a v rest

/-- The canonical form: addresses strictly rising and below 4096, and no cell that reads as an unlisted one. -/
def Memory.wf (m : Mem) : Bool :=
  match m with
  | [] => true
  | (a, v) :: r => a < 4096 && v != memBlank && r.all (fun c => a < c.1) && Memory.wf r

end Sys2Proof.Machine
end

