-- ==== Sys2Proof/Config.lean ====
section
/-! DEFINITION. What an installation fixes (the parameters P_MULDIV, P_PDP1D, P_DEVICES, P_LAP_CLEARS of 00_scope.md rules
R7 to R10) and the free values: the device relations of 45_iot_standard.md rule R220, which no source gives, as constants
with no body. -/

namespace Sys2Proof

/-- The in-out options the spec lists by heading (00_scope.md rule R2(e); the `option` key of opcode_table.json). -/
inductive Opt where
  | reader      -- perforated tape reader
  | punch       -- perforated tape punch
  | typewriter  -- alphanumerical on-line typewriter
  | type120     -- Sequence Break System
  | type131     -- High Speed Data Control
  | type30      -- Precision CRT Display
  | type33      -- Symbol Generator
  | type31      -- Ultra-Precision CRT Display
  | type40      -- Card Punch Control Type 40-1
  | type421     -- Card Reader
  | type51      -- Programmed Magnetic Tape Control
  | type52      -- Automatic Magnetic Tape Control
  | type510     -- Automatic Magnetic Tape Control
  | type138     -- Multiplexed A-D Converter Type 138/139
  | type64      -- Automatic Line Printer
  | type23      -- Drum
  | type630     -- Data Communication System (PDP-1D)
  | spacewar    -- MIT Spacewar! controllers, non-standard
  | pdp1dInOut  -- the PDP-1D processor in-out functions (47_pdp1d.md section 5)
deriving DecidableEq, Repr

/-- Every option, in the order of the spec. -/
def Opt.all : List Opt :=
  [.reader, .punch, .typewriter, .type120, .type131, .type30, .type33, .type31, .type40, .type421, .type51, .type52,
   .type510, .type138, .type64, .type23, .type630, .spacewar, .pdp1dInOut]

/-- Which of the three names a decoder reports for the Type 52 words 72u067, which the rows `mrf`, `inr` and `ccr` all
match (90_conflicts.md C10). The three have one effect; only the reported name differs. -/
inductive Type52Name where
  | mrf
  | inr
  | ccr
deriving DecidableEq, Repr

/-- The parameters of an installation. They are an argument of the model (a part of the state that no step writes), so a
statement about every state is a statement about every value of them (92_eei_decisions.md, Named parameters). -/
structure Config where
  /-- P_MULDIV (rule R7): the automatic multiply/divide type 10 option is installed. -/
  mulDiv : Bool
  /-- P_PDP1D (rule R8): the machine is a PDP-1D. -/
  pdp1d : Bool
  /-- P_LAP_CLEARS (rule R10), OPEN: bit 11 of an operate word clears AC before the transfer. -/
  lapClears : Bool
  /-- The configuration supplies the whole sequence break mechanism with Type 120 (rule R365, decision D27). -/
  breaks : Bool
  /-- P_DEVICES (rule R9): the installed in-out options. -/
  devices : List Opt
  /-- Narrowed rows (rule R248, 90_conflicts.md C5): in a pair (o, p) the rows of o exclude every word that a row of p
  matches (the form is a DESIGN CHOICE, notes/assumptions/37.md). -/
  narrowed : List (Opt × Opt)
  /-- The name reported for the one decode class of Type 52, device code 67 (90_conflicts.md C10). -/
  type52Name : Type52Name
deriving DecidableEq, Repr

/-- An option counts as installed when the configuration names it; the PDP-1D processor functions only together with
P_PDP1D (47_pdp1d.md section 5). -/
def Config.installed (cfg : Config) : List Opt :=
  Opt.all.filter fun o => cfg.devices.contains o && (o != .pdp1dInOut || cfg.pdp1d)

/-- A device's own state δ (rule R220(b)), of a type the spec leaves to the device: one natural number, which can code any
countable state, and the Boolean `done` of rule R221. -/
structure DevState where
  core : Nat
  done : Bool
deriving DecidableEq, Repr, Inhabited

/-- What an option's `dev_iot` answers (rule R220(c)): IO', PF', the memory words it writes in order, the skip, and δ'. -/
structure DevResult where
  io : Word
  pf : Six
  writes : List (Addr × Word)
  skip : Bool
  dev : DevState
deriving DecidableEq, Repr, Inhabited

/-- What a supplied sequence break mechanism does when it takes a break (rule R365: what is saved, where control goes). -/
structure BreakEffect where
  ac : Word
  io : Word
  pc : Addr
  ov : Bool
  pf : Six
  writes : List (Addr × Word)
  dev : DevState
deriving DecidableEq, Repr, Inhabited

/-- FREE: the relation `dev_iot(w, AC, IO, PF, M, δ)` of each option (rule R220). No source says what a device does, so
nothing is known of this constant (93_implementation_defined.md U11). `shown` are the states of the displays where the word
is `sdb`, the one word whose `dev_iot` is of two devices (rule R247); for every other word it is empty. -/
opaque Config.devIot (o : Opt) (w ac io : Word) (pf : Six) (mem : Mem) (d : DevState) (shown : List DevState) : DevResult

/-- FREE: the state of an installed display after `sdb` (rule R247), from the same data as the answer of `devIot`. -/
opaque Config.displayLoaded (display : Opt) (w ac io : Word) (pf : Six) (mem : Mem) (d : DevState)
    (shown : List DevState) : Nat

/-- FREE: the device's own state, but for `done`, after the processor has received its completion pulse (rule R221: the
source does not say what the device does then). -/
opaque Config.afterPulse (o : Opt) (d : DevState) : Nat

/-- FREE: which of several outstanding pulses `ioh` receives (rule R222 does not say). -/
opaque Config.pulseTaken (ds : List (Opt × DevState)) : Nat

/-- FREE: the sequence break mechanism a configuration may supply with Type 120 (rule R365, decision D27): whether a break
is taken between two instructions, and its effect. Which devices are wired to a channel and how their request becomes
pending is not in the source (rule R363): that the decision sees the state d of Type 120, the processor and memory, and no
state of another device, is the model's (DESIGN CHOICE, notes/assumptions/13.md). -/
opaque Config.seqBreak (d : DevState) (ac io : Word) (pc : Addr) (ov : Bool) (pf : Six) (mem : Mem) : Option BreakEffect

end Sys2Proof
end

