-- ==== Sys2Proof/Machine/Launch.lean ====
section
/-! DEFINITION. The launch values of the reset state (70_reset_and_hazards.md rule R380, 10_state.md rule R36). The spec
gives none but RUN = 1: every value here is the model's own (DESIGN CHOICE, notes/assumptions/2.md and 3.md), and no
statement rests on one. -/

namespace Sys2Proof.Machine

/-- The base configuration (rules R8, R9; 95_test_vectors.md): no Type 10 option, not a PDP-1D, no in-out option. The OPEN
parameter P_LAP_CLEARS is launched false (notes/assumptions/3.md). -/
def launchConfig : Config :=
  { mulDiv := false, pdp1d := false, lapClears := false, breaks := false, devices := [], narrowed := []
    type52Name := .mrf }

/-- The launch value of AC, IO, TW and MB (unsafe: the spec leaves each any 18-bit value). -/
def launchWord : Word := 0

/-- The start address (unsafe: the spec leaves it any 12-bit value, rule R381). -/
def launchPc : Addr := 0

end Sys2Proof.Machine
end

