-- ==== Sys2Proof/Machine/State.lean ====
section
/-! DEFINITION. The state of the machine (10_state.md), the reasons a step can stop, and the state at launch. -/

namespace Sys2Proof.Machine

/-- How far the drum's set-up order `dia`, `dwc`, `dcl` has come (70_reset_and_hazards.md rule R384). The model's own field:
it is what tells an out-of-order sequence, which a model must refuse, from one in order. -/
inductive DrumSetup where
  | idle       -- no set-up begun
  | addressed  -- `dia` given
  | counted    -- `dia`, then `dwc` given
deriving DecidableEq, Repr

/-- The PDP-1D state that 10_state.md rule R35 names and gives no behaviour: no instruction of the model reads or writes it.
The Link is one bit (47_pdp1d.md rule R337). R35 gives no other width, and these are the model's (DESIGN CHOICE,
notes/assumptions/35.md): ring mode and restrict mode, each entered and left, are one Boolean each, and the rest natural
numbers. -/
structure Pdp1dState where
  link : Bool
  ringMode : Bool
  restrictMode : Bool
  charPosition : Nat
  memoryNaming : Nat
  trapBuffer : Nat
  clock : Nat
deriving DecidableEq, Repr

/-- The state (10_state.md rules R20 to R37). -/
structure State where
  /-- AC, the accumulator (rule R20). -/
  ac : Word
  /-- IO, the in-out register (rule R21). -/
  io : Word
  /-- PC, the program counter (rule R23). -/
  pc : Addr
  /-- OV, the overflow flag (rule R24). -/
  ov : Bool
  /-- PF[1..6], the program flags (rule R25). -/
  pf : Six
  /-- SS[1..6], the sense switches, inputs held constant (rule R26). -/
  ss : Six
  /-- TW, the console test word, an input held constant (rule R28). -/
  tw : Word
  /-- MB, the memory buffer (rule R29). -/
  mb : Word
  /-- RUN (rule R30). -/
  run : Bool
  /-- M, the core memory (rule R31). -/
  mem : Mem
  /-- The devices' own states δ (45_iot_standard.md rule R220(b)), by option; an option not listed is in its first state. -/
  devs : List (Opt × DevState)
  /-- The drum's set-up order (rule R384), the model's own. -/
  drum : DrumSetup
  /-- The PDP-1D state that is named only (rule R35). -/
  named1d : Pdp1dState
  /-- The parameters of the installation (00_scope.md rules R7 to R10), constant. -/
  cfg : Config
deriving DecidableEq, Repr

/-- The reasons for which the processor has no step. None is an event of the machine with a handler (60_exceptions.md rule
R360). -/
inductive Fault where
  /-- Raised by `step` when RUN = 0: a halted computer has no step (rules R30, R362). Safe: no state follows. -/
  | halted
  /-- Raised by the effective address of any deferring instruction whose defer chain is circular: the instruction never
  completes (rule R55). Safe: the divergence has no later state. -/
  | deferLoop
  /-- Raised by `xct` when a chain of `xct` never reaches another instruction (rule R140(5)). Safe, as `deferLoop`. -/
  | xctLoop
  /-- Raised by an in-out transfer with the wait bit, and by `ioh`, when no completion pulse comes: the processor is stuck,
  RUN stays 1 (rules R221, R222). Safe: no further instruction is executed. -/
  | inOutWait
deriving DecidableEq, Repr

/-- The reasons for which the model gives an instruction no meaning (`refuse` of 00_scope.md rule R16). All are safe: no
state follows a refusal, so nothing can be proved of one. -/
inductive Refusal where
  /-- Raised by `exec` for an instruction that has no meaning yet. -/
  | notModelled (mnemonic : String)
  /-- Raised by any in-out word that no installed option claims (rule R220). -/
  | noInstalledDevice
  /-- Raised by any in-out word that two installed options claim (rule R220). -/
  | twoOptionsClaim
  /-- Raised by the Type 120 instructions when the configuration does not supply the break mechanism (rule R365, D27). -/
  | noBreakMechanism
  /-- Raised by `dwc` and `dcl` when the drum's set-up order is broken (rule R384). -/
  | drumOutOfOrder
  /-- Raised by `lch` and `dch`: PDP-1D character instructions, semantics not in the source (rules R320, R321). -/
  | characterInstruction
  /-- Raised by `tad`: PDP-1D 2's complement add, carry and Link behaviour not in the source (rule R322). -/
  | twosComplementAdd
  /-- Raised by every word of code 74 on the PDP-1D: semantics not in the source (rule R329). -/
  | group74
  /-- Raised by the PDP-1D in-out codes: their `dev_iot` is not defined by any source (47_pdp1d.md section 5). -/
  | pdp1dInOut
deriving DecidableEq, Repr

/-- The machine at launch (rules R36, R380): RUN = 1 is the spec's; every other value is the model's choice
(notes/assumptions/2.md, 3.md). Memory lists nothing. -/
def State.reset : State :=
  { ac := launchWord, io := launchWord, pc := launchPc, ov := false, pf := Six.clear, ss := Six.clear, tw := launchWord,
    mb := launchWord, run := true, mem := [], devs := [], drum := .idle,
    named1d := { link := false, ringMode := false, restrictMode := false, charPosition := 0, memoryNaming := 0,
                 trapBuffer := 0, clock := 0 },
    cfg := launchConfig }

end Sys2Proof.Machine
end

