-- ==== Sys2Proof/Machine/Ops.lean ====
section
/-! DEFINITION. The named operations over the state: memory accesses, skip, halt, the saved program counter word, the
devices' states, and the taking of a sequence break, the machine's only interrupt (60_exceptions.md rules R360 to R366). -/

namespace Sys2Proof.Machine

/-- The outcome of an instruction. -/
abbrev Out := Host.Outcome State Fault Refusal

/-- The word at an address. -/
def State.readWord (s : State) (a : Addr) : Word := memRead s.mem a.toNat

/-- The state after `MemRead(a, 1)`: MB holds the word read (20_memory.md rule R51, 10_state.md rule R29). -/
def State.afterRead (s : State) (a : Addr) : State := { s with mb := s.readWord a }

/-- `MemWrite(a, 1, v)`; the word passes through MB (rules R51, R29). -/
def State.writeWord (s : State) (a : Addr) (v : Word) : State := { s with mem := memWrite s.mem a.toNat v, mb := v }

/-- Several stores, in order (a block-transfer device, rule R220). -/
def State.writeWords (s : State) (ws : List (Addr × Word)) : State := ws.foldl (fun t w => t.writeWord w.1 w.2) s

/-- `skip` (00_scope.md rule R16). -/
def State.skip (s : State) : State := { s with pc := s.pc + 1 }

/-- Skip when the condition holds. -/
def State.skipIf (s : State) (c : Bool) : State := if c then s.skip else s

/-- `halt` (rules R16, R30, R362). -/
def State.halt (s : State) : State := { s with run := false }

/-- `pcword = OV ++ 0b00000 ++ PC` (40_basic_instructions.md rule R142). -/
def State.pcword (s : State) : Word := BitVec.ofBool s.ov ++ (0 : BitVec 5) ++ s.pc

/-- The first state of a device (DESIGN CHOICE, notes/assumptions/2.md). -/
def firstDevState : DevState := ⟨0, false⟩

/-- The state of one device. -/
def devOf (o : Opt) : List (Opt × DevState) → DevState
  | [] => firstDevState
  | (p, d) :: r => if p = o then d else devOf o r

/-- Replace the state of one device. -/
def setDev (o : Opt) (d : DevState) : List (Opt × DevState) → List (Opt × DevState)
  | [] => [(o, d)]
  | (p, e) :: r => if p = o then (o, d) :: r else (p, e) :: setDev o d r

/-- A device's state after the processor has received its completion pulse: the pulse is no longer outstanding, and the rest
is free (rules R221, R222). -/
def pulsed (o : Opt) (d : DevState) : DevState := ⟨Config.afterPulse o d, false⟩

/-- The options that move blocks of words by themselves, whose `dev_iot` may write memory (45_iot_standard.md rule R220). -/
def movesBlocks (o : Opt) : Bool := o == .type131 || o == .type52 || o == .type510 || o == .type23

/-- The break the supplied mechanism takes between two instructions, if any: only with Type 120 installed and the whole
mechanism supplied (rules R363, R365, decision D27). The base configuration never takes one.
Of the devices it sees Type 120 alone (rule R363 leaves open which request a break; DESIGN CHOICE,
notes/assumptions/13.md). -/
def State.breakDue (s : State) : Option BreakEffect :=
  if s.cfg.breaks && s.cfg.installed.contains .type120 then
    Config.seqBreak (devOf .type120 s.devs) s.ac s.io s.pc s.ov s.pf s.mem
  else none

/-- Taking a break: what is saved and where control goes are the mechanism's (rule R365). A return is the mechanism's too:
`jmp i` restores nothing (rule R366). A break starts no transfer, so it gives no completion pulse (rule R222). -/
def State.takeBreak (s : State) (b : BreakEffect) : State :=
  { s.writeWords b.writes with
    ac := b.ac, io := b.io, pc := b.pc, ov := b.ov, pf := b.pf
    devs := setDev .type120 { b.dev with done := b.dev.done && (devOf .type120 s.devs).done } s.devs }

/-- The fetch of the instruction cycle (10_state.md rule R27): the word at PC goes to MB and PC advances. -/
def State.fetched (s : State) : State := { s with mb := s.readWord s.pc, pc := s.pc + 1 }

end Sys2Proof.Machine
end

