-- ==== Sys2Proof/Machine/Operands.lean ====
section
/-! DEFINITION. The effective address and the memory operand (20_memory.md rules R53 to R55). -/

namespace Sys2Proof.Machine

/-- A defer chain from the word at y: the effective address and the last word read. The fuel counts the reads; a chain of
4096 words that all defer has come back to a word it has read, so it never ends (rule R55). -/
def deferChain (m : Mem) : Nat → Addr → Option (Addr × Word)
  | 0, _ => none
  | fuel + 1, y =>
    let d := memRead m y.toNat
    if iBit d then deferChain m fuel (addrPart d) else some (addrPart d, d)

/-- The number of words of memory (rule R50). -/
def memoryWords : Nat := 4096

/-- `ea(y, i)` (rule R53) with the state after its reads (MB); none when the chain never ends (rule R55). -/
def State.ea (s : State) (i : Bool) (y : Addr) : Option (Addr × State) :=
  if i then (deferChain s.mem memoryWords y).map fun p => (p.1, { s with mb := p.2 }) else some (y, s)

/-- `e <- ea(y, i)`, then the rest of the instruction (40_basic_instructions.md rule R110). -/
def withAddress (i : Bool) (y : Addr) (s : State) (k : Addr → State → Out) : Out :=
  match s.ea i y with
  | none => .fault .deferLoop
  | some (e, s1) => k e s1

/-- `e <- ea(y, i); b <- MemRead(e, 1)`, then the rest of the instruction. -/
def withOperand (i : Bool) (y : Addr) (s : State) (k : Word → State → Out) : Out :=
  withAddress i y s fun e s1 => k (s1.readWord e) (s1.afterRead e)

end Sys2Proof.Machine
end

