-- ==== Sys2Proof/Machine/Arithmetic.lean ====
section
/-! DEFINITION. The arithmetic, index and compare instructions (40_basic_instructions.md). -/

namespace Sys2Proof.Machine

/-- `add Y` (rule R111). OV is set by the sum before the minus-zero replacement, and never cleared. -/
def execAdd (i : Bool) (y : Addr) (s : State) : Out :=
  withOperand i y s fun b s1 =>
    let sum := add1c s1.ac b
    .next { s1 with ov := s1.ov || addOverflow s1.ac b sum, ac := plusZero sum }

/-- `sub Y` (rule R139). There is no minus-zero replacement. -/
def execSub (i : Bool) (y : Addr) (s : State) : Out :=
  withOperand i y s fun b s1 =>
    let r := sub1c s1.ac b
    .next { s1 with ov := s1.ov || subOverflow s1.ac b r, ac := r }

/-- The step of `idx` and `isp`: add one, without OV (rules R121, R124). -/
def indexed (v : Word) : Word := plusZero (add1c v 1)

/-- `idx Y` (rule R121). -/
def execIdx (i : Bool) (y : Addr) (s : State) : Out :=
  withAddress i y s fun e s1 =>
    let r := indexed (s1.readWord e)
    .next { s1.writeWord e r with ac := r }

/-- `isp Y`: skips when the sign of the result is 0 (rule R124). -/
def execIsp (i : Bool) (y : Addr) (s : State) : Out :=
  withAddress i y s fun e s1 =>
    let r := indexed (s1.readWord e)
    .next ({ s1.writeWord e r with ac := r }.skipIf (!sign r))

/-- `sad Y`: skips when the patterns differ (rule R135). -/
def execSad (i : Bool) (y : Addr) (s : State) : Out :=
  withOperand i y s fun b s1 => .next (s1.skipIf (s1.ac != b))

/-- `sas Y`: skips when the patterns are equal (rule R136). -/
def execSas (i : Bool) (y : Addr) (s : State) : Out :=
  withOperand i y s fun b s1 => .next (s1.skipIf (s1.ac == b))

/-- `mus Y`, the multiply step (rule R132). -/
def execMus (i : Bool) (y : Addr) (s : State) : Out :=
  withOperand i y s fun b s1 =>
    let a := if bit 17 s1.io then plusZero (add1c s1.ac b) else s1.ac
    .next { s1 with io := BitVec.ofBool (bit 17 a) ++ s1.io.extractLsb' 1 17, ac := (0 : BitVec 1) ++ a.extractLsb' 1 17 }

/-- `dis Y`, the divide step (rule R118). -/
def execDis (i : Bool) (y : Addr) (s : State) : Out :=
  withOperand i y s fun b s1 =>
    let t := sign s1.ac
    let a : Word := s1.ac.extractLsb' 0 17 ++ BitVec.ofBool (bit 0 s1.io)
    let io : Word := s1.io.extractLsb' 0 17 ++ BitVec.ofBool (!t)
    let sum := if bit 17 io then a.toNat + (~~~b).toNat else a.toNat + b.toNat + 1
    let around := if 2 ^ 18 ≤ sum then BitVec.ofNat 18 (sum + 1) else BitVec.ofNat 18 sum
    .next { s1 with io := io, ac := plusZero around }

/-- `mul Y`: the sign and magnitude product (rule R133). -/
def execMul (i : Bool) (y : Addr) (s : State) : Out :=
  withOperand i y s fun b s1 =>
    let p := magnitude s1.ac * magnitude b
    let hi : Word := BitVec.ofNat 18 (p / 2 ^ 17)
    let lo : Word := BitVec.ofNat 18 (p % 2 ^ 17 * 2)
    if sign s1.ac != sign b && p != 0 then .next { s1 with ac := ~~~hi, io := ~~~lo }
    else .next { s1 with ac := hi, io := lo }

/-- `div Y` (rule R119): when the high magnitude is not below the divisor's, nothing changes and there is no skip. -/
def execDiv (i : Bool) (y : Addr) (s : State) : Out :=
  withOperand i y s fun b s1 =>
    let v := magnitude b
    let h := magnitude s1.ac
    if v ≤ h then .next s1
    else
      let l := if sign s1.ac then ~~~s1.io else s1.io
      let d := h * 2 ^ 17 + l.toNat / 2
      let q : Word := BitVec.ofNat 18 (d / v)
      let r : Word := BitVec.ofNat 18 (d % v)
      .next ({ s1 with
        ac := if sign s1.ac != sign b && q != 0 then ~~~q else q
        io := if sign s1.ac && r != 0 then ~~~r else r }.skip)

end Sys2Proof.Machine
end

