-- ==== Sys2Proof/Machine/Control.lean ====
section
/-! DEFINITION. The jumps and calls (40_basic_instructions.md rules R113, R125 to R127, R142), and the spare operation
codes, which halt (30_encoding.md rule R92). -/

namespace Sys2Proof.Machine

/-- `jmp Y` (rule R126). -/
def execJmp (i : Bool) (y : Addr) (s : State) : Out :=
  withAddress i y s fun e s1 => .next { s1 with pc := e }

/-- `jsp Y`: AC takes the saved program counter word (rule R127). -/
def execJsp (i : Bool) (y : Addr) (s : State) : Out :=
  withAddress i y s fun e s1 => .next { s1 with ac := s1.pcword, pc := e }

/-- The call of `jda` and `cal`: deposit AC at y, save PC in AC, go on at y + 1 (rules R125, R52). -/
def State.call (s : State) (y : Addr) : State := { s.writeWord y s.ac with ac := s.pcword, pc := y + 1 }

/-- `jda Y` (rule R125); never deferred. -/
def execJda (y : Addr) (s : State) : Out := .next (s.call y)

/-- `cal` (rule R113): `jda 100`, whatever the address part. -/
def execCal (_y : Addr) (s : State) : Out := .next (s.call 0o100)

/-- Spare code 00 (rules R92, R361). -/
def execSpare00 (_rest : BitVec 13) (s : State) : Out := .next s.halt

/-- Spare code 12 of the PDP-1 (rule R92). -/
def execSpare12 (_rest : BitVec 13) (s : State) : Out := .next s.halt

/-- Spare code 14 of the PDP-1 (rule R92). -/
def execSpare14 (_rest : BitVec 13) (s : State) : Out := .next s.halt

/-- Spare code 36 of the PDP-1 (rule R92). -/
def execSpare36 (_rest : BitVec 13) (s : State) : Out := .next s.halt

/-- Spare code 74 of the PDP-1 (rule R92). -/
def execSpare74 (_rest : BitVec 13) (s : State) : Out := .next s.halt

end Sys2Proof.Machine
end

