-- ==== Sys2Proof/Machine/IotTable.lean ====
section
/-! DEFINITION. The rows of the in-out transfer group (opcode_table.json; 45_iot_standard.md, 46_iot_options.md,
47_pdp1d.md section 5) and which installed options claim a word (45_iot_standard.md rule R220). -/

namespace Sys2Proof.Machine

/-- One row of the in-out list: its option, mnemonic, match and mask (rule R220(a)). -/
structure IotRow where
  opt : Opt
  mnemonic : String
  pattern : Word
  mask : Word
deriving DecidableEq, Repr

/-- The standard devices, rules R223 to R248. -/
def iotStandard : List IotRow :=
  [⟨.reader, "rpa", 0o720001, 0o767777⟩,
   ⟨.reader, "rpb", 0o720002, 0o767777⟩,
   ⟨.reader, "rrb", 0o720030, 0o767777⟩,
   ⟨.punch, "ppa", 0o720005, 0o767777⟩,
   ⟨.punch, "ppb", 0o720006, 0o767777⟩,
   ⟨.typewriter, "tyo", 0o720003, 0o767777⟩,
   ⟨.typewriter, "tyi", 0o720004, 0o767777⟩,
   ⟨.type120, "esm", 0o720055, 0o767777⟩,
   ⟨.type120, "lsm", 0o720054, 0o767777⟩,
   ⟨.type120, "cbs", 0o720056, 0o767777⟩,
   ⟨.type120, "dsc", 0o720050, 0o760077⟩,
   ⟨.type120, "asc", 0o720051, 0o760077⟩,
   ⟨.type120, "isb", 0o720052, 0o760077⟩,
   ⟨.type120, "cac", 0o720053, 0o767777⟩,
   ⟨.type131, "swc", 0o720046, 0o760777⟩,
   ⟨.type131, "sia", 0o720346, 0o767777⟩,
   ⟨.type131, "sdf", 0o720146, 0o767777⟩,
   ⟨.type131, "ric", 0o720366, 0o767777⟩,
   ⟨.type131, "shr", 0o720446, 0o767777⟩,
   ⟨.type30, "dpy", 0o720007, 0o767077⟩,
   ⟨.type33, "gpl", 0o722027, 0o767777⟩,
   ⟨.type33, "gpr", 0o720027, 0o767777⟩,
   ⟨.type33, "glf", 0o722026, 0o767777⟩,
   ⟨.type33, "gsp", 0o720026, 0o767777⟩,
   ⟨.type33, "sdb", 0o722007, 0o767777⟩,
   ⟨.type31, "dpp", 0o720407, 0o767777⟩]

/-- The optional devices, rules R260 to R304. -/
def iotOptional : List IotRow :=
  [⟨.type40, "lag", 0o720044, 0o767777⟩,
   ⟨.type40, "pac", 0o720043, 0o767777⟩,
   ⟨.type421, "rac", 0o720041, 0o767777⟩,
   ⟨.type421, "rbc", 0o720042, 0o767777⟩,
   ⟨.type421, "rcc", 0o720032, 0o767777⟩,
   ⟨.type51, "msm", 0o720073, 0o767777⟩,
   ⟨.type51, "mcs", 0o720034, 0o767777⟩,
   ⟨.type51, "mcb", 0o720070, 0o767777⟩,
   ⟨.type51, "mwc", 0o720071, 0o767777⟩,
   ⟨.type51, "mrc", 0o720072, 0o767777⟩,
   ⟨.type52, "muf", 0o720076, 0o760077⟩,
   ⟨.type52, "mic", 0o720075, 0o760077⟩,
   ⟨.type52, "mrf", 0o720067, 0o760777⟩,
   ⟨.type52, "mri", 0o720066, 0o760077⟩,
   ⟨.type52, "mes", 0o720035, 0o760777⟩,
   ⟨.type52, "mel", 0o720036, 0o760777⟩,
   ⟨.type52, "inr", 0o720067, 0o760077⟩,
   ⟨.type52, "ccr", 0o720067, 0o760777⟩,
   ⟨.type510, "sfc", 0o720072, 0o767777⟩,
   ⟨.type510, "rsr", 0o720172, 0o767777⟩,
   ⟨.type510, "crf", 0o720272, 0o767777⟩,
   ⟨.type510, "cpm", 0o720472, 0o767777⟩,
   ⟨.type510, "dur", 0o720070, 0o760077⟩,
   ⟨.type510, "mtf", 0o720071, 0o760077⟩,
   ⟨.type510, "cgo", 0o720073, 0o767777⟩,
   ⟨.type138, "rcb", 0o720031, 0o767777⟩,
   ⟨.type138, "cad", 0o720040, 0o767777⟩,
   ⟨.type138, "scv", 0o720047, 0o760077⟩,
   ⟨.type138, "icv", 0o720060, 0o767777⟩,
   ⟨.type64, "cirbuf", 0o722045, 0o767777⟩,
   ⟨.type64, "lpb", 0o720045, 0o767777⟩,
   ⟨.type64, "pas", 0o721045, 0o767077⟩,
   ⟨.type23, "dia", 0o720061, 0o760077⟩,
   ⟨.type23, "dwc", 0o720062, 0o760077⟩,
   ⟨.type23, "dcl", 0o720063, 0o760077⟩,
   ⟨.type23, "dba", 0o722061, 0o767777⟩,
   ⟨.type23, "dra", 0o722062, 0o767777⟩,
   ⟨.type630, "rch", 0o720022, 0o767777⟩,
   ⟨.type630, "rcr.630", 0o721022, 0o767777⟩,
   ⟨.type630, "tcc", 0o725022, 0o767777⟩,
   ⟨.type630, "tcb", 0o724022, 0o767777⟩,
   ⟨.type630, "rrc", 0o720122, 0o767777⟩,
   ⟨.type630, "ssb", 0o724122, 0o767777⟩,
   ⟨.type630, "rsc", 0o721122, 0o767777⟩,
   ⟨.spacewar, "iot_11", 0o720011, 0o767777⟩]

/-- The in-out codes of the PDP-1D, rules R339 to R349. -/
def iotPdp1d : List IotRow :=
  [⟨.pdp1dInOut, "erg", 0o720011, 0o767777⟩,
   ⟨.pdp1dInOut, "lrg", 0o720010, 0o767777⟩,
   ⟨.pdp1dInOut, "lrm", 0o720064, 0o767777⟩,
   ⟨.pdp1dInOut, "erm", 0o720065, 0o767777⟩,
   ⟨.pdp1dInOut, "rnm", 0o720066, 0o767777⟩,
   ⟨.pdp1dInOut, "rsm", 0o720067, 0o767777⟩,
   ⟨.pdp1dInOut, "rck", 0o720032, 0o760077⟩,
   ⟨.pdp1dInOut, "ctb", 0o720035, 0o760077⟩,
   ⟨.pdp1dInOut, "rro", 0o720017, 0o760077⟩,
   ⟨.pdp1dInOut, "rri", 0o720037, 0o760077⟩,
   ⟨.pdp1dInOut, "gcf", 0o720127, 0o767777⟩]

/-- Every row with an option; `ioh` belongs to the processor (rule R222) and is no row of this list. -/
def iotRows : List IotRow := iotStandard ++ iotOptional ++ iotPdp1d

/-- `w & r.mask = r.match` (rule R220). -/
def IotRow.claims (r : IotRow) (w : Word) : Bool := w &&& r.mask == r.pattern

/-- The option has a row that matches the word (rule R220). -/
def optClaims (o : Opt) (w : Word) : Bool := iotRows.any fun r => r.opt == o && r.claims w

/-- The configuration's rows of the option are narrowed to exclude the word, for another option claims it (rule R248). -/
def narrowedOut (cfg : Config) (o : Opt) (w : Word) : Bool := cfg.narrowed.any fun p => p.1 == o && optClaims p.2 w

/-- `opts`: the installed options that claim the word (rule R220), by their rows as the configuration narrows them (rule
R248, 90_conflicts.md C5). -/
def claimants (cfg : Config) (w : Word) : List Opt :=
  cfg.installed.filter fun o => optClaims o w && !narrowedOut cfg o w

/-- The names of all rows of installed options that match the word: one decode class may have several names
(90_conflicts.md C10). -/
def claimedNames (cfg : Config) (w : Word) : List String :=
  (iotRows.filter fun r => (claimants cfg w).contains r.opt && r.claims w).map (·.mnemonic)

end Sys2Proof.Machine
end

