-- ==== Sys2Proof/Syntax.lean ====
section
/-! DEFINITION. The syntax of the PDP-1: one constructor per row of spec/opcode_table.json (30_encoding.md rules R80 to
R94). `i` is the i-bit (bit 5) where it defers, `y` the address part (bits 6 to 17), `inv` the i-bit of a skip, `wait` the
i-bit of an in-out transfer; `bits` are bits 5 to 17 of a word, so that source bit n of the word is bit 17 - n of it. -/

namespace Sys2Proof

/-- The instructions. The rows of a group that name single micro-operations or conditions are constructors of their own;
`opr`, `skp`, `sft`, `iot` and `special` are the group rows, for the words no other row of the group names. -/
inductive Instr where
  /-- `and Y`: logical AND into AC (rule R112). -/
  | and (i : Bool) (y : Addr)
  /-- `ior Y`: inclusive OR into AC (rule R122). -/
  | ior (i : Bool) (y : Addr)
  /-- `xor Y`: exclusive OR into AC (rule R141). -/
  | xor (i : Bool) (y : Addr)
  /-- `xct Y`: execute the word at the effective address (rule R140). -/
  | xct (i : Bool) (y : Addr)
  /-- `lac Y`: load AC (rule R128). -/
  | lac (i : Bool) (y : Addr)
  /-- `lio Y`: load IO (rule R131). -/
  | lio (i : Bool) (y : Addr)
  /-- `dac Y`: deposit AC (rule R114). -/
  | dac (i : Bool) (y : Addr)
  /-- `dap Y`: deposit the address part of AC (rule R115). -/
  | dap (i : Bool) (y : Addr)
  /-- `dip Y`: deposit the instruction part of AC (rule R117). -/
  | dip (i : Bool) (y : Addr)
  /-- `dio Y`: deposit IO (rule R116). -/
  | dio (i : Bool) (y : Addr)
  /-- `dzm Y`: deposit zero (rule R120). -/
  | dzm (i : Bool) (y : Addr)
  /-- `add Y`: 1's complement add (rule R111). -/
  | add (i : Bool) (y : Addr)
  /-- `sub Y`: 1's complement subtract (rule R139). -/
  | sub (i : Bool) (y : Addr)
  /-- `idx Y`: index, leave in memory and AC (rule R121). -/
  | idx (i : Bool) (y : Addr)
  /-- `isp Y`: index and skip if positive (rule R124). -/
  | isp (i : Bool) (y : Addr)
  /-- `sad Y`: skip if AC differs (rule R135). -/
  | sad (i : Bool) (y : Addr)
  /-- `sas Y`: skip if AC is the same (rule R136). -/
  | sas (i : Bool) (y : Addr)
  /-- `mus Y`: multiply step, P_MULDIV false (rule R132). -/
  | mus (i : Bool) (y : Addr)
  /-- `mul Y`: multiply, P_MULDIV true (rule R133). -/
  | mul (i : Bool) (y : Addr)
  /-- `dis Y`: divide step, P_MULDIV false (rule R118). -/
  | dis (i : Bool) (y : Addr)
  /-- `div Y`: divide, P_MULDIV true (rule R119). -/
  | div (i : Bool) (y : Addr)
  /-- `jmp Y`: jump (rule R126). -/
  | jmp (i : Bool) (y : Addr)
  /-- `jsp Y`: jump and save PC (rule R127). -/
  | jsp (i : Bool) (y : Addr)
  /-- `cal`: equals `jda 100`, Y ignored (rule R113). -/
  | cal (y : Addr)
  /-- `jda Y`: deposit AC in Y, save PC, go to Y + 1 (rule R125). -/
  | jda (y : Addr)
  /-- `law N` (rule R129). -/
  | law (n : Addr)
  /-- `law -N`, written `law i N` (rule R130). -/
  | lawNeg (n : Addr)
  /-- spare operation code 00, with the i-bit and the address part it ignores (rule R92). -/
  | spare00 (rest : BitVec 13)
  /-- spare operation code 12, with the i-bit and the address part it ignores (rule R92). -/
  | spare12 (rest : BitVec 13)
  /-- spare operation code 14, with the i-bit and the address part it ignores (rule R92). -/
  | spare14 (rest : BitVec 13)
  /-- spare operation code 36, with the i-bit and the address part it ignores (rule R92). -/
  | spare36 (rest : BitVec 13)
  /-- spare operation code 74, with the i-bit and the address part it ignores (rule R92). -/
  | spare74 (rest : BitVec 13)
  /-- a skip-group word by its bits 5 to 17 (rules R138, R180): the bare group code and every union. -/
  | skp (bits : BitVec 13)
  /-- `sma`, with the inverting i-bit (rules R181, R189). -/
  | sma (inv : Bool)
  /-- `spa`, with the inverting i-bit (rules R182, R189). -/
  | spa (inv : Bool)
  /-- `spi`, with the inverting i-bit (rules R183, R189). -/
  | spi (inv : Bool)
  /-- `sza`, with the inverting i-bit (rules R184, R189). -/
  | sza (inv : Bool)
  /-- `szo`, with the inverting i-bit (rules R186, R189). -/
  | szo (inv : Bool)
  /-- `szf f` (rules R185, R189). -/
  | szf (inv : Bool) (f : BitVec 3)
  /-- `szs s` (rules R187, R189). -/
  | szs (inv : Bool) (s : BitVec 3)
  /-- `sni`, PDP-1D (rule R323). -/
  | sni
  /-- `szi`, which is `sni` with the i-bit, PDP-1D (rule R324). -/
  | szi
  /-- a shift/rotate word by its bits 5 to 17 (rules R137, R200): the bare group code 660000 (rule R98). -/
  | sft (bits : BitVec 13)
  /-- `ral`, its count mask being bits 9 to 17 (rule R201). -/
  | ral (mask : BitVec 9)
  /-- `rar`, its count mask being bits 9 to 17 (rule R202). -/
  | rar (mask : BitVec 9)
  /-- `rcl`, its count mask being bits 9 to 17 (rule R203). -/
  | rcl (mask : BitVec 9)
  /-- `rcr`, its count mask being bits 9 to 17 (rule R204). -/
  | rcr (mask : BitVec 9)
  /-- `ril`, its count mask being bits 9 to 17 (rule R205). -/
  | ril (mask : BitVec 9)
  /-- `rir`, its count mask being bits 9 to 17 (rule R206). -/
  | rir (mask : BitVec 9)
  /-- `sal`, its count mask being bits 9 to 17 (rule R207). -/
  | sal (mask : BitVec 9)
  /-- `sar`, its count mask being bits 9 to 17 (rule R208). -/
  | sar (mask : BitVec 9)
  /-- `scl`, its count mask being bits 9 to 17 (rule R209). -/
  | scl (mask : BitVec 9)
  /-- `scr`, its count mask being bits 9 to 17 (rule R210). -/
  | scr (mask : BitVec 9)
  /-- `sil`, its count mask being bits 9 to 17 (rule R211). -/
  | sil (mask : BitVec 9)
  /-- `sir`, its count mask being bits 9 to 17 (rule R212). -/
  | sir (mask : BitVec 9)
  /-- a shift/rotate word that selects no register (rule R213). -/
  | sftNoRegister (right shift : Bool) (mask : BitVec 9)
  /-- an operate-group word by its bits 5 to 17 (rules R134, R161): every union. -/
  | opr (bits : BitVec 13)
  /-- `nop` (rule R169). -/
  | nop
  /-- `cla` (rule R162). -/
  | cla
  /-- `cli` (rule R164). -/
  | cli
  /-- `cma` (rule R165). -/
  | cma
  /-- `hlt` (rule R166). -/
  | hlt
  /-- `lap` (rule R167). -/
  | lap
  /-- bit 7 alone (762000), or with the `cla` bit as the listed 762200 (rule R168). -/
  | lat (clear : Bool)
  /-- `clf f` (rule R163). -/
  | clf (f : BitVec 3)
  /-- `stf f` (rule R170). -/
  | stf (f : BitVec 3)
  /-- `lia`, PDP-1D (rule R325). -/
  | lia
  /-- `lai`, PDP-1D (rule R326). -/
  | lai
  /-- `swp`, PDP-1D (rule R327). -/
  | swp
  /-- `cmi`, PDP-1D (rule R328). -/
  | cmi
  /-- `lch`, PDP-1D (rule R320). -/
  | lch (i : Bool) (y : Addr)
  /-- `dch`, PDP-1D (rule R321). -/
  | dch (i : Bool) (y : Addr)
  /-- `tad`, PDP-1D (rule R322). -/
  | tad (i : Bool) (y : Addr)
  /-- a word of code 74 by its bits 5 to 17, PDP-1D (rule R329). -/
  | special (bits : BitVec 13)
  /-- `ifi`, PDP-1D, code 74 (rule R330). -/
  | ifi
  /-- `idc`, PDP-1D, code 74 (rule R331). -/
  | idc
  /-- `ida`, PDP-1D, code 74 (rule R332). -/
  | ida
  /-- `scm`, PDP-1D, code 74 (rule R333). -/
  | scm
  /-- `sci`, PDP-1D, code 74 (rule R334). -/
  | sci
  /-- `scf`, PDP-1D, code 74 (rule R335). -/
  | scf
  /-- `szl`, PDP-1D, code 74 (rule R336). -/
  | szl
  /-- `cll`, PDP-1D, code 74 (rule R337). -/
  | cll
  /-- `cml`, PDP-1D, code 74 (rule R338). -/
  | cml
  /-- an in-out transfer word that no row below names in this configuration (rules R123, R220). -/
  | iot (wait : Bool) (y : Addr)
  /-- `ioh` (rule R222). -/
  | ioh
  /-- `rpa`, option `reader` (rule R223). -/
  | rpa (wait : Bool)
  /-- `rpb`, option `reader` (rule R224). -/
  | rpb (wait : Bool)
  /-- `rrb`, option `reader` (rule R225). -/
  | rrb (wait : Bool)
  /-- `ppa`, option `punch` (rule R226). -/
  | ppa (wait : Bool)
  /-- `ppb`, option `punch` (rule R227). -/
  | ppb (wait : Bool)
  /-- `tyo`, option `typewriter` (rule R228). -/
  | tyo (wait : Bool)
  /-- `tyi`, option `typewriter` (rule R229). -/
  | tyi (wait : Bool)
  /-- `esm`, option `type120` (rule R230). -/
  | esm (wait : Bool)
  /-- `lsm`, option `type120` (rule R231). -/
  | lsm (wait : Bool)
  /-- `cbs`, option `type120` (rule R232). -/
  | cbs (wait : Bool)
  /-- `dsc`, option `type120` (rule R233). -/
  | dsc (wait : Bool) (k : BitVec 3) (n : BitVec 3)
  /-- `asc`, option `type120` (rule R234). -/
  | asc (wait : Bool) (k : BitVec 3) (n : BitVec 3)
  /-- `isb`, option `type120` (rule R235). -/
  | isb (wait : Bool) (k : BitVec 3) (n : BitVec 3)
  /-- `cac`, option `type120` (rule R236). -/
  | cac (wait : Bool)
  /-- `swc`, option `type131` (rule R237). -/
  | swc (wait : Bool) (x : BitVec 3)
  /-- `sia`, option `type131` (rule R238). -/
  | sia (wait : Bool)
  /-- `sdf`, option `type131` (rule R239). -/
  | sdf (wait : Bool)
  /-- `ric`, option `type131` (rule R240). -/
  | ric (wait : Bool)
  /-- `shr`, option `type131` (rule R241). -/
  | shr (wait : Bool)
  /-- `dpy`, option `type30` (rule R242). -/
  | dpy (wait : Bool) (b : BitVec 3)
  /-- `gpl`, option `type33` (rule R243). -/
  | gpl (wait : Bool)
  /-- `gpr`, option `type33` (rule R244). -/
  | gpr (wait : Bool)
  /-- `glf`, option `type33` (rule R245). -/
  | glf (wait : Bool)
  /-- `gsp`, option `type33` (rule R246). -/
  | gsp (wait : Bool)
  /-- `sdb`, option `type33` (rule R247). -/
  | sdb (wait : Bool)
  /-- `dpp`, option `type31` (rule R248). -/
  | dpp (wait : Bool)
  /-- `lag`, option `type40` (rule R260). -/
  | lag (wait : Bool)
  /-- `pac`, option `type40` (rule R261). -/
  | pac (wait : Bool)
  /-- `rac`, option `type421` (rule R262). -/
  | rac (wait : Bool)
  /-- `rbc`, option `type421` (rule R263). -/
  | rbc (wait : Bool)
  /-- `rcc`, option `type421` (rule R264). -/
  | rcc (wait : Bool)
  /-- `msm`, option `type51` (rule R265). -/
  | msm (wait : Bool)
  /-- `mcs`, option `type51` (rule R266). -/
  | mcs (wait : Bool)
  /-- `mcb`, option `type51` (rule R267). -/
  | mcb (wait : Bool)
  /-- `mwc`, option `type51` (rule R268). -/
  | mwc (wait : Bool)
  /-- `mrc`, option `type51` (rule R269). -/
  | mrc (wait : Bool)
  /-- `muf`, option `type52` (rule R270). -/
  | muf (wait : Bool) (u : BitVec 3) (e : BitVec 3)
  /-- `mic`, option `type52` (rule R271). -/
  | mic (wait : Bool) (u : BitVec 3) (c : BitVec 3)
  /-- `mrf`, option `type52` (rule R272). -/
  | mrf (wait : Bool) (u : BitVec 3)
  /-- `mri`, option `type52` (rule R273). -/
  | mri (wait : Bool) (u : BitVec 3) (g : BitVec 3)
  /-- `mes`, option `type52` (rule R274). -/
  | mes (wait : Bool) (u : BitVec 3)
  /-- `mel`, option `type52` (rule R275). -/
  | mel (wait : Bool) (u : BitVec 3)
  /-- `inr`, option `type52` (rule R276). -/
  | inr (wait : Bool) (u : BitVec 3) (r : BitVec 3)
  /-- `ccr`, option `type52` (rule R277). -/
  | ccr (wait : Bool) (digit : BitVec 3)
  /-- `sfc`, option `type510` (rule R278). -/
  | sfc (wait : Bool)
  /-- `rsr`, option `type510` (rule R279). -/
  | rsr (wait : Bool)
  /-- `crf`, option `type510` (rule R280). -/
  | crf (wait : Bool)
  /-- `cpm`, option `type510` (rule R281). -/
  | cpm (wait : Bool)
  /-- `dur`, option `type510` (rule R282). -/
  | dur (wait : Bool) (xx : BitVec 6)
  /-- `mtf`, option `type510` (rule R283). -/
  | mtf (wait : Bool) (xx : BitVec 6)
  /-- `cgo`, option `type510` (rule R284). -/
  | cgo (wait : Bool)
  /-- `rcb`, option `type138` (rule R285). -/
  | rcb (wait : Bool)
  /-- `cad`, option `type138` (rule R286). -/
  | cad (wait : Bool)
  /-- `scv`, option `type138` (rule R287). -/
  | scv (wait : Bool) (mm : BitVec 6)
  /-- `icv`, option `type138` (rule R288). -/
  | icv (wait : Bool)
  /-- `cirbuf`, option `type64` (rule R289). -/
  | cirbuf (wait : Bool)
  /-- `lpb`, option `type64` (rule R290). -/
  | lpb (wait : Bool)
  /-- `pas`, option `type64` (rule R291). -/
  | pas (wait : Bool) (x : BitVec 3)
  /-- `dia`, option `type23` (rule R292). -/
  | dia (wait : Bool) (xx : BitVec 6)
  /-- `dwc`, option `type23` (rule R293). -/
  | dwc (wait : Bool) (xx : BitVec 6)
  /-- `dcl`, option `type23` (rule R294). -/
  | dcl (wait : Bool) (xx : BitVec 6)
  /-- `dba`, option `type23` (rule R295). -/
  | dba (wait : Bool)
  /-- `dra`, option `type23` (rule R296). -/
  | dra (wait : Bool)
  /-- `rch`, option `type630` (rule R297). -/
  | rch (wait : Bool)
  /-- `rcr.630`, option `type630` (rule R298). -/
  | rcr630 (wait : Bool)
  /-- `tcc`, option `type630` (rule R299). -/
  | tcc (wait : Bool)
  /-- `tcb`, option `type630` (rule R300). -/
  | tcb (wait : Bool)
  /-- `rrc`, option `type630` (rule R301). -/
  | rrc (wait : Bool)
  /-- `ssb`, option `type630` (rule R302). -/
  | ssb (wait : Bool)
  /-- `rsc`, option `type630` (rule R303). -/
  | rsc (wait : Bool)
  /-- `iot 11`, option `spacewar` (rule R304). -/
  | iot11 (wait : Bool)
  /-- `erg`, option `pdp1dInOut` (rule R339). -/
  | erg (wait : Bool)
  /-- `lrg`, option `pdp1dInOut` (rule R340). -/
  | lrg (wait : Bool)
  /-- `lrm`, option `pdp1dInOut` (rule R341). -/
  | lrm (wait : Bool)
  /-- `erm`, option `pdp1dInOut` (rule R342). -/
  | erm (wait : Bool)
  /-- `rnm`, option `pdp1dInOut` (rule R343). -/
  | rnm (wait : Bool)
  /-- `rsm`, option `pdp1dInOut` (rule R344). -/
  | rsm (wait : Bool)
  /-- `rck`, option `pdp1dInOut` (rule R345). -/
  | rck (wait : Bool) (xx : BitVec 6)
  /-- `ctb`, option `pdp1dInOut` (rule R346). -/
  | ctb (wait : Bool) (xx : BitVec 6)
  /-- `rro`, option `pdp1dInOut` (rule R347). -/
  | rro (wait : Bool) (xx : BitVec 6)
  /-- `rri`, option `pdp1dInOut` (rule R348). -/
  | rri (wait : Bool) (xx : BitVec 6)
  /-- `gcf`, option `pdp1dInOut` (rule R349). -/
  | gcf (wait : Bool)
deriving DecidableEq, Repr

end Sys2Proof
end

