-- ==== Sys2Proof/WellFormed.lean ====
section
/-! DEFINITION. Which instructions a configuration's decoder can answer (30_encoding.md rule R91): the parameter of the
instruction's row holds, a row that names single micro-operations is used where it names the word, and an in-out word goes
to the one installed option that claims it. -/

namespace Sys2Proof

open Machine

/-- The word has exactly one claimant, this option (rule R220). -/
def soleClaim (cfg : Config) (o : Opt) (w : Word) : Bool := claimants cfg w == [o]

/-- The operate words that a row of their own names on both machines: `nop`, `clf`, `stf`, `lap`, `cla`, `hlt`, `cma`,
`lat`, `cli` (rule R87), by bits 5 to 17. -/
def operateNamed : List (BitVec 13) :=
  [0, 1, 2, 3, 4, 5, 6, 7, 0o10, 0o11, 0o12, 0o13, 0o14, 0o15, 0o16, 0o17, 0o100, 0o200, 0o400, 0o1000, 0o2000, 0o2200,
   0o4000]

/-- The operate words that a PDP-1D row names besides: `lia`, `lai`, `swp`, `cmi` (rule R87). -/
def operateNamed1d : List (BitVec 13) := [0o20, 0o40, 0o60, 0o10000]

/-- The skip conditions, bits 6 to 17, that a row names alone: `szf`, `szs`, `sza`, `spa`, `sma`, `szo`, `spi` (rule R88). -/
def skipNamed : List Addr :=
  [1, 2, 3, 4, 5, 6, 7, 0o10, 0o20, 0o30, 0o40, 0o50, 0o60, 0o70, 0o100, 0o200, 0o400, 0o1000, 0o2000]

/-- The words of code 74 that a row names alone (rule R329), by bits 5 to 17. -/
def specialNamed : List (BitVec 13) := [0o2000, 0o1000, 0o400, 0o200, 0o100, 0o40, 0o20, 0o10, 0o4]

/-- An operate word no row names alone. -/
def operateUnion (cfg : Config) (bits : BitVec 13) : Bool :=
  !operateNamed.contains bits && !(cfg.pdp1d && operateNamed1d.contains bits)

/-- A skip word no row names alone. -/
def skipUnion (cfg : Config) (bits : BitVec 13) : Bool :=
  !skipNamed.contains (bits.extractLsb' 0 12) && !(cfg.pdp1d && bits.extractLsb' 0 12 == 0o4000)

/-- An in-out word that no row of this configuration names: not `ioh`, and claimed by no installed option or by several. -/
def iotUnnamed (cfg : Config) (wait : Bool) (y : Addr) : Bool :=
  !(wait && y == 0) && (claimants cfg (mkWord 29 wait y)).length != 1

/-- Well-formed in a configuration: the decoder of that configuration answers it for its own word. -/
def wellFormed (cfg : Config) : Instr → Bool
  | .and _ _ => true
  | .ior _ _ => true
  | .xor _ _ => true
  | .xct _ _ => true
  | .lac _ _ => true
  | .lio _ _ => true
  | .dac _ _ => true
  | .dap _ _ => true
  | .dip _ _ => true
  | .dio _ _ => true
  | .dzm _ _ => true
  | .add _ _ => true
  | .sub _ _ => true
  | .idx _ _ => true
  | .isp _ _ => true
  | .sad _ _ => true
  | .sas _ _ => true
  | .mus _ _ => !cfg.mulDiv
  | .mul _ _ => cfg.mulDiv
  | .dis _ _ => !cfg.mulDiv
  | .div _ _ => cfg.mulDiv
  | .jmp _ _ => true
  | .jsp _ _ => true
  | .cal _ => true
  | .jda _ => true
  | .law _ => true
  | .lawNeg _ => true
  | .spare00 _ => true
  | .spare12 _ => !cfg.pdp1d
  | .spare14 _ => !cfg.pdp1d
  | .spare36 _ => !cfg.pdp1d
  | .spare74 _ => !cfg.pdp1d
  | .skp bits => skipUnion cfg bits
  | .sma _ => true
  | .spa _ => true
  | .spi _ => true
  | .sza _ => true
  | .szo _ => true
  | .szf _ f => f != 0
  | .szs _ s => s != 0
  | .sni => cfg.pdp1d
  | .szi => cfg.pdp1d
  | .sft bits => bits == 0
  | .ral _ => true
  | .rar _ => true
  | .rcl _ => true
  | .rcr _ => true
  | .ril _ => true
  | .rir _ => true
  | .sal _ => true
  | .sar _ => true
  | .scl _ => true
  | .scr _ => true
  | .sil _ => true
  | .sir _ => true
  | .sftNoRegister right shift mask => right || shift || mask != 0
  | .opr bits => operateUnion cfg bits
  | .nop => true
  | .cla => true
  | .cli => true
  | .cma => true
  | .hlt => true
  | .lap => true
  | .lat _ => true
  | .clf f => f != 0
  | .stf _ => true
  | .lia => cfg.pdp1d
  | .lai => cfg.pdp1d
  | .swp => cfg.pdp1d
  | .cmi => cfg.pdp1d
  | .lch _ _ => cfg.pdp1d
  | .dch _ _ => cfg.pdp1d
  | .tad _ _ => cfg.pdp1d
  | .special bits => cfg.pdp1d && !specialNamed.contains bits
  | .ifi => cfg.pdp1d
  | .idc => cfg.pdp1d
  | .ida => cfg.pdp1d
  | .scm => cfg.pdp1d
  | .sci => cfg.pdp1d
  | .scf => cfg.pdp1d
  | .szl => cfg.pdp1d
  | .cll => cfg.pdp1d
  | .cml => cfg.pdp1d
  | .iot wait y => iotUnnamed cfg wait y
  | .ioh => true
  | .rpa wait => soleClaim cfg .reader (iotWord wait 0o00 0o01)
  | .rpb wait => soleClaim cfg .reader (iotWord wait 0o00 0o02)
  | .rrb wait => soleClaim cfg .reader (iotWord wait 0o00 0o30)
  | .ppa wait => soleClaim cfg .punch (iotWord wait 0o00 0o05)
  | .ppb wait => soleClaim cfg .punch (iotWord wait 0o00 0o06)
  | .tyo wait => soleClaim cfg .typewriter (iotWord wait 0o00 0o03)
  | .tyi wait => soleClaim cfg .typewriter (iotWord wait 0o00 0o04)
  | .esm wait => soleClaim cfg .type120 (iotWord wait 0o00 0o55)
  | .lsm wait => soleClaim cfg .type120 (iotWord wait 0o00 0o54)
  | .cbs wait => soleClaim cfg .type120 (iotWord wait 0o00 0o56)
  | .dsc wait k n => soleClaim cfg .type120 (iotWord wait (k ++ n) 0o50)
  | .asc wait k n => soleClaim cfg .type120 (iotWord wait (k ++ n) 0o51)
  | .isb wait k n => soleClaim cfg .type120 (iotWord wait (k ++ n) 0o52)
  | .cac wait => soleClaim cfg .type120 (iotWord wait 0o00 0o53)
  | .swc wait x => soleClaim cfg .type131 (iotWord wait (x ++ (0 : BitVec 3)) 0o46)
  | .sia wait => soleClaim cfg .type131 (iotWord wait 0o03 0o46)
  | .sdf wait => soleClaim cfg .type131 (iotWord wait 0o01 0o46)
  | .ric wait => soleClaim cfg .type131 (iotWord wait 0o03 0o66)
  | .shr wait => soleClaim cfg .type131 (iotWord wait 0o04 0o46)
  | .dpy wait b => soleClaim cfg .type30 (iotWord wait ((0o0 : BitVec 3) ++ b) 0o07)
  | .gpl wait => soleClaim cfg .type33 (iotWord wait 0o20 0o27)
  | .gpr wait => soleClaim cfg .type33 (iotWord wait 0o00 0o27)
  | .glf wait => soleClaim cfg .type33 (iotWord wait 0o20 0o26)
  | .gsp wait => soleClaim cfg .type33 (iotWord wait 0o00 0o26)
  | .sdb wait => soleClaim cfg .type33 (iotWord wait 0o20 0o07)
  | .dpp wait => soleClaim cfg .type31 (iotWord wait 0o04 0o07)
  | .lag wait => soleClaim cfg .type40 (iotWord wait 0o00 0o44)
  | .pac wait => soleClaim cfg .type40 (iotWord wait 0o00 0o43)
  | .rac wait => soleClaim cfg .type421 (iotWord wait 0o00 0o41)
  | .rbc wait => soleClaim cfg .type421 (iotWord wait 0o00 0o42)
  | .rcc wait => soleClaim cfg .type421 (iotWord wait 0o00 0o32)
  | .msm wait => soleClaim cfg .type51 (iotWord wait 0o00 0o73)
  | .mcs wait => soleClaim cfg .type51 (iotWord wait 0o00 0o34)
  | .mcb wait => soleClaim cfg .type51 (iotWord wait 0o00 0o70)
  | .mwc wait => soleClaim cfg .type51 (iotWord wait 0o00 0o71)
  | .mrc wait => soleClaim cfg .type51 (iotWord wait 0o00 0o72)
  | .muf wait u e => soleClaim cfg .type52 (iotWord wait (u ++ e) 0o76)
  | .mic wait u c => soleClaim cfg .type52 (iotWord wait (u ++ c) 0o75)
  | .mrf wait u => soleClaim cfg .type52 (iotWord wait (u ++ (0 : BitVec 3)) 0o67) && cfg.type52Name == .mrf
  | .mri wait u g => soleClaim cfg .type52 (iotWord wait (u ++ g) 0o66)
  | .mes wait u => soleClaim cfg .type52 (iotWord wait (u ++ (0 : BitVec 3)) 0o35)
  | .mel wait u => soleClaim cfg .type52 (iotWord wait (u ++ (0 : BitVec 3)) 0o36)
  | .inr wait u r => soleClaim cfg .type52 (iotWord wait (u ++ r) 0o67) && (r != 0 || cfg.type52Name == .inr)
  | .ccr wait digit => soleClaim cfg .type52 (iotWord wait (digit ++ (0 : BitVec 3)) 0o67) && cfg.type52Name == .ccr
  | .sfc wait => soleClaim cfg .type510 (iotWord wait 0o00 0o72)
  | .rsr wait => soleClaim cfg .type510 (iotWord wait 0o01 0o72)
  | .crf wait => soleClaim cfg .type510 (iotWord wait 0o02 0o72)
  | .cpm wait => soleClaim cfg .type510 (iotWord wait 0o04 0o72)
  | .dur wait xx => soleClaim cfg .type510 (iotWord wait xx 0o70)
  | .mtf wait xx => soleClaim cfg .type510 (iotWord wait xx 0o71)
  | .cgo wait => soleClaim cfg .type510 (iotWord wait 0o00 0o73)
  | .rcb wait => soleClaim cfg .type138 (iotWord wait 0o00 0o31)
  | .cad wait => soleClaim cfg .type138 (iotWord wait 0o00 0o40)
  | .scv wait mm => soleClaim cfg .type138 (iotWord wait mm 0o47)
  | .icv wait => soleClaim cfg .type138 (iotWord wait 0o00 0o60)
  | .cirbuf wait => soleClaim cfg .type64 (iotWord wait 0o20 0o45)
  | .lpb wait => soleClaim cfg .type64 (iotWord wait 0o00 0o45)
  | .pas wait x => soleClaim cfg .type64 (iotWord wait ((0o1 : BitVec 3) ++ x) 0o45)
  | .dia wait xx => soleClaim cfg .type23 (iotWord wait xx 0o61) && xx != 0o20
  | .dwc wait xx => soleClaim cfg .type23 (iotWord wait xx 0o62) && xx != 0o20
  | .dcl wait xx => soleClaim cfg .type23 (iotWord wait xx 0o63)
  | .dba wait => soleClaim cfg .type23 (iotWord wait 0o20 0o61)
  | .dra wait => soleClaim cfg .type23 (iotWord wait 0o20 0o62)
  | .rch wait => soleClaim cfg .type630 (iotWord wait 0o00 0o22)
  | .rcr630 wait => soleClaim cfg .type630 (iotWord wait 0o10 0o22)
  | .tcc wait => soleClaim cfg .type630 (iotWord wait 0o50 0o22)
  | .tcb wait => soleClaim cfg .type630 (iotWord wait 0o40 0o22)
  | .rrc wait => soleClaim cfg .type630 (iotWord wait 0o01 0o22)
  | .ssb wait => soleClaim cfg .type630 (iotWord wait 0o41 0o22)
  | .rsc wait => soleClaim cfg .type630 (iotWord wait 0o11 0o22)
  | .iot11 wait => soleClaim cfg .spacewar (iotWord wait 0o00 0o11)
  | .erg wait => soleClaim cfg .pdp1dInOut (iotWord wait 0o00 0o11)
  | .lrg wait => soleClaim cfg .pdp1dInOut (iotWord wait 0o00 0o10)
  | .lrm wait => soleClaim cfg .pdp1dInOut (iotWord wait 0o00 0o64)
  | .erm wait => soleClaim cfg .pdp1dInOut (iotWord wait 0o00 0o65)
  | .rnm wait => soleClaim cfg .pdp1dInOut (iotWord wait 0o00 0o66)
  | .rsm wait => soleClaim cfg .pdp1dInOut (iotWord wait 0o00 0o67)
  | .rck wait xx => soleClaim cfg .pdp1dInOut (iotWord wait xx 0o32)
  | .ctb wait xx => soleClaim cfg .pdp1dInOut (iotWord wait xx 0o35)
  | .rro wait xx => soleClaim cfg .pdp1dInOut (iotWord wait xx 0o17)
  | .rri wait xx => soleClaim cfg .pdp1dInOut (iotWord wait xx 0o37)
  | .gcf wait => soleClaim cfg .pdp1dInOut (iotWord wait 0o01 0o27)

end Sys2Proof
end

