-- ==== Sys2Proof/Decode.lean ====
section
/-! DEFINITION. The decoder (30_encoding.md rules R81 to R95), total on every 18-bit word in every configuration, and the
encoder, written from the same tables (rules R82, R85 to R90). -/

namespace Sys2Proof

open Machine

/-- The Type 52 words of device code 67: with a non-zero second digit `inr` alone; with digit zero the rows `mrf`, `inr`
and `ccr` all match, and the configuration says which name stands for the class (90_conflicts.md C10). -/
def type52Row (cfg : Config) (wait : Bool) (u r : BitVec 3) : Instr :=
  if r = 0 then
    match cfg.type52Name with
    | .mrf => .mrf wait u
    | .inr => .inr wait u r
    | .ccr => .ccr wait u
  else .inr wait u r

/-- The row of an option that names a word, by its control and device fields; where two rows of the option match, the one
with the larger mask (rule R220). -/
def rowOf (cfg : Config) (o : Opt) (wait : Bool) (ctl dev : BitVec 6) : Option Instr :=
  match o with
  | .reader =>
      if dev = 0o01 ∧ ctl = 0o00 then some (.rpa wait)
      else if dev = 0o02 ∧ ctl = 0o00 then some (.rpb wait)
      else if dev = 0o30 ∧ ctl = 0o00 then some (.rrb wait)
      else none
  | .punch =>
      if dev = 0o05 ∧ ctl = 0o00 then some (.ppa wait)
      else if dev = 0o06 ∧ ctl = 0o00 then some (.ppb wait)
      else none
  | .typewriter =>
      if dev = 0o03 ∧ ctl = 0o00 then some (.tyo wait)
      else if dev = 0o04 ∧ ctl = 0o00 then some (.tyi wait)
      else none
  | .type120 =>
      if dev = 0o55 ∧ ctl = 0o00 then some (.esm wait)
      else if dev = 0o54 ∧ ctl = 0o00 then some (.lsm wait)
      else if dev = 0o56 ∧ ctl = 0o00 then some (.cbs wait)
      else if dev = 0o53 ∧ ctl = 0o00 then some (.cac wait)
      else if dev = 0o50 then some (.dsc wait (ctl.extractLsb' 3 3) (ctl.extractLsb' 0 3))
      else if dev = 0o51 then some (.asc wait (ctl.extractLsb' 3 3) (ctl.extractLsb' 0 3))
      else if dev = 0o52 then some (.isb wait (ctl.extractLsb' 3 3) (ctl.extractLsb' 0 3))
      else none
  | .type131 =>
      if dev = 0o46 ∧ ctl = 0o03 then some (.sia wait)
      else if dev = 0o46 ∧ ctl = 0o01 then some (.sdf wait)
      else if dev = 0o66 ∧ ctl = 0o03 then some (.ric wait)
      else if dev = 0o46 ∧ ctl = 0o04 then some (.shr wait)
      else if dev = 0o46 ∧ ctl.extractLsb' 0 3 = 0 then some (.swc wait (ctl.extractLsb' 3 3))
      else none
  | .type30 =>
      if dev = 0o07 ∧ ctl.extractLsb' 3 3 = 0 then some (.dpy wait (ctl.extractLsb' 0 3))
      else none
  | .type33 =>
      if dev = 0o27 ∧ ctl = 0o20 then some (.gpl wait)
      else if dev = 0o27 ∧ ctl = 0o00 then some (.gpr wait)
      else if dev = 0o26 ∧ ctl = 0o20 then some (.glf wait)
      else if dev = 0o26 ∧ ctl = 0o00 then some (.gsp wait)
      else if dev = 0o07 ∧ ctl = 0o20 then some (.sdb wait)
      else none
  | .type31 =>
      if dev = 0o07 ∧ ctl = 0o04 then some (.dpp wait)
      else none
  | .type40 =>
      if dev = 0o44 ∧ ctl = 0o00 then some (.lag wait)
      else if dev = 0o43 ∧ ctl = 0o00 then some (.pac wait)
      else none
  | .type421 =>
      if dev = 0o41 ∧ ctl = 0o00 then some (.rac wait)
      else if dev = 0o42 ∧ ctl = 0o00 then some (.rbc wait)
      else if dev = 0o32 ∧ ctl = 0o00 then some (.rcc wait)
      else none
  | .type51 =>
      if dev = 0o73 ∧ ctl = 0o00 then some (.msm wait)
      else if dev = 0o34 ∧ ctl = 0o00 then some (.mcs wait)
      else if dev = 0o70 ∧ ctl = 0o00 then some (.mcb wait)
      else if dev = 0o71 ∧ ctl = 0o00 then some (.mwc wait)
      else if dev = 0o72 ∧ ctl = 0o00 then some (.mrc wait)
      else none
  | .type52 =>
      if dev = 0o35 ∧ ctl.extractLsb' 0 3 = 0 then some (.mes wait (ctl.extractLsb' 3 3))
      else if dev = 0o36 ∧ ctl.extractLsb' 0 3 = 0 then some (.mel wait (ctl.extractLsb' 3 3))
      else if dev = 0o76 then some (.muf wait (ctl.extractLsb' 3 3) (ctl.extractLsb' 0 3))
      else if dev = 0o75 then some (.mic wait (ctl.extractLsb' 3 3) (ctl.extractLsb' 0 3))
      else if dev = 0o66 then some (.mri wait (ctl.extractLsb' 3 3) (ctl.extractLsb' 0 3))
      else if dev = 0o67 then some (type52Row cfg wait (ctl.extractLsb' 3 3) (ctl.extractLsb' 0 3))
      else none
  | .type510 =>
      if dev = 0o72 ∧ ctl = 0o00 then some (.sfc wait)
      else if dev = 0o72 ∧ ctl = 0o01 then some (.rsr wait)
      else if dev = 0o72 ∧ ctl = 0o02 then some (.crf wait)
      else if dev = 0o72 ∧ ctl = 0o04 then some (.cpm wait)
      else if dev = 0o73 ∧ ctl = 0o00 then some (.cgo wait)
      else if dev = 0o70 then some (.dur wait ctl)
      else if dev = 0o71 then some (.mtf wait ctl)
      else none
  | .type138 =>
      if dev = 0o31 ∧ ctl = 0o00 then some (.rcb wait)
      else if dev = 0o40 ∧ ctl = 0o00 then some (.cad wait)
      else if dev = 0o60 ∧ ctl = 0o00 then some (.icv wait)
      else if dev = 0o47 then some (.scv wait ctl)
      else none
  | .type64 =>
      if dev = 0o45 ∧ ctl = 0o20 then some (.cirbuf wait)
      else if dev = 0o45 ∧ ctl = 0o00 then some (.lpb wait)
      else if dev = 0o45 ∧ ctl.extractLsb' 3 3 = 1 then some (.pas wait (ctl.extractLsb' 0 3))
      else none
  | .type23 =>
      if dev = 0o61 ∧ ctl = 0o20 then some (.dba wait)
      else if dev = 0o62 ∧ ctl = 0o20 then some (.dra wait)
      else if dev = 0o61 then some (.dia wait ctl)
      else if dev = 0o62 then some (.dwc wait ctl)
      else if dev = 0o63 then some (.dcl wait ctl)
      else none
  | .type630 =>
      if dev = 0o22 ∧ ctl = 0o00 then some (.rch wait)
      else if dev = 0o22 ∧ ctl = 0o10 then some (.rcr630 wait)
      else if dev = 0o22 ∧ ctl = 0o50 then some (.tcc wait)
      else if dev = 0o22 ∧ ctl = 0o40 then some (.tcb wait)
      else if dev = 0o22 ∧ ctl = 0o01 then some (.rrc wait)
      else if dev = 0o22 ∧ ctl = 0o41 then some (.ssb wait)
      else if dev = 0o22 ∧ ctl = 0o11 then some (.rsc wait)
      else none
  | .spacewar =>
      if dev = 0o11 ∧ ctl = 0o00 then some (.iot11 wait)
      else none
  | .pdp1dInOut =>
      if dev = 0o11 ∧ ctl = 0o00 then some (.erg wait)
      else if dev = 0o10 ∧ ctl = 0o00 then some (.lrg wait)
      else if dev = 0o64 ∧ ctl = 0o00 then some (.lrm wait)
      else if dev = 0o65 ∧ ctl = 0o00 then some (.erm wait)
      else if dev = 0o66 ∧ ctl = 0o00 then some (.rnm wait)
      else if dev = 0o67 ∧ ctl = 0o00 then some (.rsm wait)
      else if dev = 0o27 ∧ ctl = 0o01 then some (.gcf wait)
      else if dev = 0o32 then some (.rck wait ctl)
      else if dev = 0o35 then some (.ctb wait ctl)
      else if dev = 0o17 then some (.rro wait ctl)
      else if dev = 0o37 then some (.rri wait ctl)
      else none

/-- Rule R91(h): `ioh`, or the row of the one installed option that claims the word; any other in-out word is `iot`. -/
def decodeIot (cfg : Config) (w : Word) : Instr :=
  if w = 0o730000 then .ioh
  else
    match claimants cfg w with
    | [o] => (rowOf cfg o (iBit w) (ctlField w) (devField w)).getD (.iot (iBit w) (addrPart w))
    | _ => .iot (iBit w) (addrPart w)

/-- Rule R91(e): a skip-group word, by its row where one condition is selected alone. -/
def decodeSkip (cfg : Config) (bits : BitVec 13) : Instr :=
  let inv := bit 5 bits
  let y : Addr := bits.extractLsb' 0 12
  if y = 0o100 then .sza inv
  else if y = 0o200 then .spa inv
  else if y = 0o400 then .sma inv
  else if y = 0o1000 then .szo inv
  else if y = 0o2000 then .spi inv
  else if y = 0o4000 ∧ cfg.pdp1d then (if inv then .szi else .sni)
  else if y = 0 then .skp bits
  else if y.extractLsb' 3 9 = 0 then .szf inv (y.extractLsb' 0 3)
  else if y.extractLsb' 6 6 = 0 ∧ y.extractLsb' 0 3 = 0 then .szs inv (y.extractLsb' 3 3)
  else .skp bits

/-- Rule R91(f), R89: a shift/rotate word by its direction, kind and registers. -/
def decodeShift (bits : BitVec 13) : Instr :=
  let mask : BitVec 9 := bits.extractLsb' 0 9
  match bit 5 bits, bit 6 bits, bit 7 bits, bit 8 bits with
  | false, false, false, true => .ral mask
  | true, false, false, true => .rar mask
  | false, false, true, true => .rcl mask
  | true, false, true, true => .rcr mask
  | false, false, true, false => .ril mask
  | true, false, true, false => .rir mask
  | false, true, false, true => .sal mask
  | true, true, false, true => .sar mask
  | false, true, true, true => .scl mask
  | true, true, true, true => .scr mask
  | false, true, true, false => .sil mask
  | true, true, true, false => .sir mask
  | right, shift, false, false => if bits = 0 then .sft 0 else .sftNoRegister right shift mask

/-- Rule R91(g), R87: an operate-group word, by its row where a row names it. -/
def decodeOperate (cfg : Config) (bits : BitVec 13) : Instr :=
  if bits = 0 then .nop
  else if bits.extractLsb' 3 10 = 0 then .clf (bits.extractLsb' 0 3)
  else if bits.extractLsb' 3 10 = 1 then .stf (bits.extractLsb' 0 3)
  else if bits = 0o100 then .lap
  else if bits = 0o200 then .cla
  else if bits = 0o400 then .hlt
  else if bits = 0o1000 then .cma
  else if bits = 0o2000 then .lat false
  else if bits = 0o2200 then .lat true
  else if bits = 0o4000 then .cli
  else if bits = 0o20 ∧ cfg.pdp1d then .lia
  else if bits = 0o40 ∧ cfg.pdp1d then .lai
  else if bits = 0o60 ∧ cfg.pdp1d then .swp
  else if bits = 0o10000 ∧ cfg.pdp1d then .cmi
  else .opr bits

/-- Rule R329: a word of code 74 on the PDP-1D, by its row where a row names it. -/
def decodeSpecial (bits : BitVec 13) : Instr :=
  if bits = 0o2000 then .ifi
  else if bits = 0o1000 then .idc
  else if bits = 0o400 then .ida
  else if bits = 0o200 then .scm
  else if bits = 0o100 then .sci
  else if bits = 0o40 then .scf
  else if bits = 0o20 then .szl
  else if bits = 0o10 then .cll
  else if bits = 0o4 then .cml
  else .special bits

/-- The decoder of rule R91: the operation code decides first (rules R82, R92, R94). -/
def decode (cfg : Config) (w : Word) : Instr :=
  let i := iBit w
  let y := addrPart w
  let bits := operandBits w
  match (opField w).toNat with
  | 0 => .spare00 bits
  | 1 => .and i y
  | 2 => .ior i y
  | 3 => .xor i y
  | 4 => .xct i y
  | 5 => if cfg.pdp1d then .lch i y else .spare12 bits
  | 6 => if cfg.pdp1d then .dch i y else .spare14 bits
  | 7 => if i then .jda y else .cal y
  | 8 => .lac i y
  | 9 => .lio i y
  | 10 => .dac i y
  | 11 => .dap i y
  | 12 => .dip i y
  | 13 => .dio i y
  | 14 => .dzm i y
  | 15 => if cfg.pdp1d then .tad i y else .spare36 bits
  | 16 => .add i y
  | 17 => .sub i y
  | 18 => .idx i y
  | 19 => .isp i y
  | 20 => .sad i y
  | 21 => .sas i y
  | 22 => if cfg.mulDiv then .mul i y else .mus i y
  | 23 => if cfg.mulDiv then .div i y else .dis i y
  | 24 => .jmp i y
  | 25 => .jsp i y
  | 26 => decodeSkip cfg bits
  | 27 => decodeShift bits
  | 28 => if i then .lawNeg y else .law y
  | 29 => decodeIot cfg w
  | 30 => if cfg.pdp1d then decodeSpecial bits else .spare74 bits
  | _ => decodeOperate cfg bits

/-- The encoder: the word of an instruction (rules R82, R85 to R90). -/
def encode : Instr → Word
  | .and i y => mkWord 1 i y
  | .ior i y => mkWord 2 i y
  | .xor i y => mkWord 3 i y
  | .xct i y => mkWord 4 i y
  | .lac i y => mkWord 8 i y
  | .lio i y => mkWord 9 i y
  | .dac i y => mkWord 10 i y
  | .dap i y => mkWord 11 i y
  | .dip i y => mkWord 12 i y
  | .dio i y => mkWord 13 i y
  | .dzm i y => mkWord 14 i y
  | .add i y => mkWord 16 i y
  | .sub i y => mkWord 17 i y
  | .idx i y => mkWord 18 i y
  | .isp i y => mkWord 19 i y
  | .sad i y => mkWord 20 i y
  | .sas i y => mkWord 21 i y
  | .mus i y => mkWord 22 i y
  | .mul i y => mkWord 22 i y
  | .dis i y => mkWord 23 i y
  | .div i y => mkWord 23 i y
  | .jmp i y => mkWord 24 i y
  | .jsp i y => mkWord 25 i y
  | .cal y => mkWord 7 false y
  | .jda y => mkWord 7 true y
  | .law n => mkWord 28 false n
  | .lawNeg n => mkWord 28 true n
  | .spare00 rest => groupWord 0 rest
  | .spare12 rest => groupWord 5 rest
  | .spare14 rest => groupWord 6 rest
  | .spare36 rest => groupWord 15 rest
  | .spare74 rest => groupWord 30 rest
  | .skp bits => groupWord 26 bits
  | .sma inv => mkWord 26 inv 0o400
  | .spa inv => mkWord 26 inv 0o200
  | .spi inv => mkWord 26 inv 0o2000
  | .sza inv => mkWord 26 inv 0o100
  | .szo inv => mkWord 26 inv 0o1000
  | .szf inv f => mkWord 26 inv ((0 : BitVec 9) ++ f)
  | .szs inv s => mkWord 26 inv ((0 : BitVec 6) ++ s ++ (0 : BitVec 3))
  | .sni => mkWord 26 false 0o4000
  | .szi => mkWord 26 true 0o4000
  | .sft bits => groupWord 27 bits
  | .ral mask => shiftWord false false false true mask
  | .rar mask => shiftWord true false false true mask
  | .rcl mask => shiftWord false false true true mask
  | .rcr mask => shiftWord true false true true mask
  | .ril mask => shiftWord false false true false mask
  | .rir mask => shiftWord true false true false mask
  | .sal mask => shiftWord false true false true mask
  | .sar mask => shiftWord true true false true mask
  | .scl mask => shiftWord false true true true mask
  | .scr mask => shiftWord true true true true mask
  | .sil mask => shiftWord false true true false mask
  | .sir mask => shiftWord true true true false mask
  | .sftNoRegister right shift mask => shiftWord right shift false false mask
  | .opr bits => groupWord 31 bits
  | .nop => groupWord 31 0o0
  | .cla => groupWord 31 0o200
  | .cli => groupWord 31 0o4000
  | .cma => groupWord 31 0o1000
  | .hlt => groupWord 31 0o400
  | .lap => groupWord 31 0o100
  | .lat clear => groupWord 31 (if clear then 0o2200 else 0o2000)
  | .clf f => groupWord 31 ((0 : BitVec 10) ++ f)
  | .stf f => groupWord 31 ((1 : BitVec 10) ++ f)
  | .lia => groupWord 31 0o20
  | .lai => groupWord 31 0o40
  | .swp => groupWord 31 0o60
  | .cmi => groupWord 31 0o10000
  | .lch i y => mkWord 5 i y
  | .dch i y => mkWord 6 i y
  | .tad i y => mkWord 15 i y
  | .special bits => groupWord 30 bits
  | .ifi => groupWord 30 0o2000
  | .idc => groupWord 30 0o1000
  | .ida => groupWord 30 0o400
  | .scm => groupWord 30 0o200
  | .sci => groupWord 30 0o100
  | .scf => groupWord 30 0o40
  | .szl => groupWord 30 0o20
  | .cll => groupWord 30 0o10
  | .cml => groupWord 30 0o4
  | .iot wait y => mkWord 29 wait y
  | .ioh => 0o730000
  | .rpa wait => iotWord wait 0o00 0o01
  | .rpb wait => iotWord wait 0o00 0o02
  | .rrb wait => iotWord wait 0o00 0o30
  | .ppa wait => iotWord wait 0o00 0o05
  | .ppb wait => iotWord wait 0o00 0o06
  | .tyo wait => iotWord wait 0o00 0o03
  | .tyi wait => iotWord wait 0o00 0o04
  | .esm wait => iotWord wait 0o00 0o55
  | .lsm wait => iotWord wait 0o00 0o54
  | .cbs wait => iotWord wait 0o00 0o56
  | .dsc wait k n => iotWord wait (k ++ n) 0o50
  | .asc wait k n => iotWord wait (k ++ n) 0o51
  | .isb wait k n => iotWord wait (k ++ n) 0o52
  | .cac wait => iotWord wait 0o00 0o53
  | .swc wait x => iotWord wait (x ++ (0 : BitVec 3)) 0o46
  | .sia wait => iotWord wait 0o03 0o46
  | .sdf wait => iotWord wait 0o01 0o46
  | .ric wait => iotWord wait 0o03 0o66
  | .shr wait => iotWord wait 0o04 0o46
  | .dpy wait b => iotWord wait ((0o0 : BitVec 3) ++ b) 0o07
  | .gpl wait => iotWord wait 0o20 0o27
  | .gpr wait => iotWord wait 0o00 0o27
  | .glf wait => iotWord wait 0o20 0o26
  | .gsp wait => iotWord wait 0o00 0o26
  | .sdb wait => iotWord wait 0o20 0o07
  | .dpp wait => iotWord wait 0o04 0o07
  | .lag wait => iotWord wait 0o00 0o44
  | .pac wait => iotWord wait 0o00 0o43
  | .rac wait => iotWord wait 0o00 0o41
  | .rbc wait => iotWord wait 0o00 0o42
  | .rcc wait => iotWord wait 0o00 0o32
  | .msm wait => iotWord wait 0o00 0o73
  | .mcs wait => iotWord wait 0o00 0o34
  | .mcb wait => iotWord wait 0o00 0o70
  | .mwc wait => iotWord wait 0o00 0o71
  | .mrc wait => iotWord wait 0o00 0o72
  | .muf wait u e => iotWord wait (u ++ e) 0o76
  | .mic wait u c => iotWord wait (u ++ c) 0o75
  | .mrf wait u => iotWord wait (u ++ (0 : BitVec 3)) 0o67
  | .mri wait u g => iotWord wait (u ++ g) 0o66
  | .mes wait u => iotWord wait (u ++ (0 : BitVec 3)) 0o35
  | .mel wait u => iotWord wait (u ++ (0 : BitVec 3)) 0o36
  | .inr wait u r => iotWord wait (u ++ r) 0o67
  | .ccr wait digit => iotWord wait (digit ++ (0 : BitVec 3)) 0o67
  | .sfc wait => iotWord wait 0o00 0o72
  | .rsr wait => iotWord wait 0o01 0o72
  | .crf wait => iotWord wait 0o02 0o72
  | .cpm wait => iotWord wait 0o04 0o72
  | .dur wait xx => iotWord wait xx 0o70
  | .mtf wait xx => iotWord wait xx 0o71
  | .cgo wait => iotWord wait 0o00 0o73
  | .rcb wait => iotWord wait 0o00 0o31
  | .cad wait => iotWord wait 0o00 0o40
  | .scv wait mm => iotWord wait mm 0o47
  | .icv wait => iotWord wait 0o00 0o60
  | .cirbuf wait => iotWord wait 0o20 0o45
  | .lpb wait => iotWord wait 0o00 0o45
  | .pas wait x => iotWord wait ((0o1 : BitVec 3) ++ x) 0o45
  | .dia wait xx => iotWord wait xx 0o61
  | .dwc wait xx => iotWord wait xx 0o62
  | .dcl wait xx => iotWord wait xx 0o63
  | .dba wait => iotWord wait 0o20 0o61
  | .dra wait => iotWord wait 0o20 0o62
  | .rch wait => iotWord wait 0o00 0o22
  | .rcr630 wait => iotWord wait 0o10 0o22
  | .tcc wait => iotWord wait 0o50 0o22
  | .tcb wait => iotWord wait 0o40 0o22
  | .rrc wait => iotWord wait 0o01 0o22
  | .ssb wait => iotWord wait 0o41 0o22
  | .rsc wait => iotWord wait 0o11 0o22
  | .iot11 wait => iotWord wait 0o00 0o11
  | .erg wait => iotWord wait 0o00 0o11
  | .lrg wait => iotWord wait 0o00 0o10
  | .lrm wait => iotWord wait 0o00 0o64
  | .erm wait => iotWord wait 0o00 0o65
  | .rnm wait => iotWord wait 0o00 0o66
  | .rsm wait => iotWord wait 0o00 0o67
  | .rck wait xx => iotWord wait xx 0o32
  | .ctb wait xx => iotWord wait xx 0o35
  | .rro wait xx => iotWord wait xx 0o17
  | .rri wait xx => iotWord wait xx 0o37
  | .gcf wait => iotWord wait 0o01 0o27

/-- The option whose row opcode_table.json lists for an in-out word: an option of both machines before the PDP-1D's own
functions, and of those a row with no operand digit, then one with one, then one with two (rule R220 names a word by the
larger mask). -/
def listedOption (w : Word) : Option Opt :=
  let rows := iotRows.filter fun r => r.claims w
  let base := rows.filter fun r => r.opt != .pdp1dInOut
  let largest (l : List IotRow) : Option IotRow :=
    (l.find? fun r => r.mask == 0o767777) <|> (l.find? fun r => r.mask != 0o760077) <|> l.head?
  (largest base <|> largest rows).map (·.opt)

/-- The configuration under which opcode_table.json lists a word: the base configuration, with the one option whose row
the in-out word is, and with P_PDP1D where the word uses a code, bit or option of the PDP-1D only (rules R8, R9, R94). -/
def tableConfig (w : Word) : Config :=
  let bits := operandBits w
  let opts : List Opt := if opField w = 29 then (listedOption w).toList else []
  let special : Bool := opField w == 30 && bits != 0
  let sni : Bool := opField w == 26 && bits.extractLsb' 0 12 == 0o4000
  let operate : Bool := opField w == 31 && operateNamed1d.contains bits
  { mulDiv := false, pdp1d := special || sni || operate || opts.contains .pdp1dInOut, lapClears := false, breaks := false,
    devices := opts, narrowed := [], type52Name := .mrf }

/-- The decoder's answer for a word of the opcode table, in the configuration under which the table lists it. A word has 18
bits; a larger number is no word, and every bit above `nbits` is 0. -/
def decodeTableWord (nbits w : Nat) : Option Instr :=
  let v := w % 2 ^ nbits
  if v < 2 ^ 18 then some (decode (tableConfig (BitVec.ofNat 18 v)) (BitVec.ofNat 18 v)) else none

end Sys2Proof
end

