-- ==== Sys2Proof/Machine/InOut.lean ====
section
/-! DEFINITION. The in-out transfer as a processor operation (45_iot_standard.md rules R220 to R222), and the standard
devices' instructions (rules R223 to R248): each hands its whole word to the one installed option that claims it. -/

namespace Sys2Proof.Machine

/-- The drum's set-up order after a word of the drum: `dia` begins it, `dwc` must follow `dia`, `dcl` must follow `dwc`, and
`dba` and `dra` take no part; none where the order is broken (70_reset_and_hazards.md rule R384). -/
def drumNext (d : DrumSetup) (w : Word) : Option DrumSetup :=
  if devField w = 0o63 then (if d = .counted then some .idle else none)
  else if ctlField w = 0o20 then some d
  else if devField w = 0o61 then some .addressed
  else if d = .addressed then some .counted
  else none

/-- The word is `sdb`, whose `dev_iot` is that of the symbol generator and display (rule R247). -/
def loadsDisplay (o : Opt) (w : Word) : Bool := o == .type33 && ctlField w == 0o20 && devField w == 0o07

/-- The displays that take part in a transfer: for `sdb` every installed display, the Type 30 and the Type 31, both on the
device code 07; for every other word none. The rule says only "display" (DESIGN CHOICE, notes/assumptions/36.md). -/
def State.displays (s : State) (o : Opt) (w : Word) : List Opt :=
  if loadsDisplay o w then s.cfg.installed.filter fun p => p == .type30 || p == .type31 else []

/-- The states of those displays. -/
def State.shown (s : State) (o : Opt) (w : Word) : List DevState := (s.displays o w).map fun p => devOf p s.devs

/-- What the option's `dev_iot` answers to the word (rule R220). -/
def State.answer (s : State) (o : Opt) (w : Word) : DevResult :=
  Config.devIot o w s.ac s.io s.pf s.mem (devOf o s.devs) (s.shown o w)

/-- A display's state after a transfer it takes part in: free, but that the completion pulse of the transfer is the
claiming option's (DESIGN CHOICE, notes/assumptions/36.md). -/
def State.displayAfter (s : State) (o : Opt) (w : Word) (p : Opt) : DevState :=
  ⟨Config.displayLoaded p w s.ac s.io s.pf s.mem (devOf o s.devs) (s.shown o w), (devOf p s.devs).done⟩

/-- The devices' states after a transfer that leaves the claiming option in state d. -/
def State.devsAfter (s : State) (o : Opt) (w : Word) (d : DevState) : List (Opt × DevState) :=
  (s.displays o w).foldl (fun ds p => setDev p (s.displayAfter o w p) ds) (setDev o d s.devs)

/-- The state after `dev_iot` has answered (rule R220): IO, the program flags, memory for the options that move blocks, the
device's state and, by a skip, PC. AC, OV, SS and TW are never changed (decision D24). -/
def State.received (s : State) (o : Opt) (w : Word) (r : DevResult) : State :=
  let t := if movesBlocks o then s.writeWords r.writes else s
  { t with io := r.io, pf := r.pf, devs := s.devsAfter o w r.dev, pc := if r.skip then s.pc + 1 else s.pc }

/-- The transfer with one option: `dev_iot`, the skip, and with the wait bit the wait for the completion pulse, which comes
when the device's `done` is reached and is then no longer outstanding (rules R220, R221). -/
def State.transfer (s : State) (o : Opt) (w : Word) : Out :=
  let r := s.answer o w
  if iBit w then
    if r.dev.done then .next (s.received o w { r with dev := pulsed o r.dev })
    else .fault .inOutWait
  else .next (s.received o w r)

/-- What the one claiming option does with the word: Type 120 is refused unless the configuration supplies the break
mechanism (D27), the drum keeps its set-up order (rule R384), the PDP-1D processor functions have no `dev_iot` (D32). -/
def State.handOver (s : State) (o : Opt) (w : Word) : Out :=
  match o with
  | .type120 => if s.cfg.breaks then s.transfer .type120 w else .refused .noBreakMechanism
  | .type23 =>
    match drumNext s.drum w with
    | some d => { s with drum := d }.transfer .type23 w
    | none => .refused .drumOutOfOrder
  | .pdp1dInOut => .refused .pdp1dInOut
  | o => s.transfer o w

/-- The installed devices with a completion pulse outstanding (`done` of rule R221). -/
def State.pulses (s : State) : List Opt := s.cfg.installed.filter fun o => (devOf o s.devs).done

/-- `wait for the completion pulse` with no transfer of its own (rule R222): one outstanding pulse is received, which of
several is free; with none outstanding the processor is stuck; with no option installed the word is refused (D24). -/
def State.ioWait (s : State) : Out :=
  if s.cfg.installed = [] then .refused .noInstalledDevice
  else
    match s.pulses with
    | [] => .fault .inOutWait
    | o :: rest =>
      let p := (o :: rest)[Config.pulseTaken s.devs % (rest.length + 1)]?.getD o
      .next { s with devs := setDev p (pulsed p (devOf p s.devs)) s.devs }

/-- The whole in-out transfer instruction (rule R220). -/
def State.inOut (s : State) (w : Word) : Out :=
  if w = 0o730000 then s.ioWait
  else
    match claimants s.cfg w with
    | [] => .refused .noInstalledDevice
    | [o] => s.handOver o w
    | _ => .refused .twoOptionsClaim

/-- `iot`, any in-out word (rules R123, R220). -/
def execIot (wait : Bool) (y : Addr) (s : State) : Out := s.inOut (mkWord 29 wait y)

/-- `ioh` (rule R222). -/
def execIoh (s : State) : Out := s.ioWait

/-- `rpa` 720001 (rule R223). -/
def execRpa (wait : Bool) (s : State) : Out := s.inOut (iotWord wait 0o00 0o01)

/-- `rpb` 720002 (rule R224). -/
def execRpb (wait : Bool) (s : State) : Out := s.inOut (iotWord wait 0o00 0o02)

/-- `rrb` 720030 (rule R225). -/
def execRrb (wait : Bool) (s : State) : Out := s.inOut (iotWord wait 0o00 0o30)

/-- `ppa` 720005 (rule R226). -/
def execPpa (wait : Bool) (s : State) : Out := s.inOut (iotWord wait 0o00 0o05)

/-- `ppb` 720006 (rule R227). -/
def execPpb (wait : Bool) (s : State) : Out := s.inOut (iotWord wait 0o00 0o06)

/-- `tyo` 720003 (rule R228). -/
def execTyo (wait : Bool) (s : State) : Out := s.inOut (iotWord wait 0o00 0o03)

/-- `tyi` 720004 (rule R229). -/
def execTyi (wait : Bool) (s : State) : Out := s.inOut (iotWord wait 0o00 0o04)

/-- `esm` 720055 (rule R230). -/
def execEsm (wait : Bool) (s : State) : Out := s.inOut (iotWord wait 0o00 0o55)

/-- `lsm` 720054 (rule R231). -/
def execLsm (wait : Bool) (s : State) : Out := s.inOut (iotWord wait 0o00 0o54)

/-- `cbs` 720056 (rule R232). -/
def execCbs (wait : Bool) (s : State) : Out := s.inOut (iotWord wait 0o00 0o56)

/-- `dsc` 72kn50 (rule R233). -/
def execDsc (wait : Bool) (k : BitVec 3) (n : BitVec 3) (s : State) : Out := s.inOut (iotWord wait (k ++ n) 0o50)

/-- `asc` 72kn51 (rule R234). -/
def execAsc (wait : Bool) (k : BitVec 3) (n : BitVec 3) (s : State) : Out := s.inOut (iotWord wait (k ++ n) 0o51)

/-- `isb` 72kn52 (rule R235). -/
def execIsb (wait : Bool) (k : BitVec 3) (n : BitVec 3) (s : State) : Out := s.inOut (iotWord wait (k ++ n) 0o52)

/-- `cac` 720053 (rule R236). -/
def execCac (wait : Bool) (s : State) : Out := s.inOut (iotWord wait 0o00 0o53)

/-- `swc` 72x046 (rule R237). -/
def execSwc (wait : Bool) (x : BitVec 3) (s : State) : Out := s.inOut (iotWord wait (x ++ (0 : BitVec 3)) 0o46)

/-- `sia` 720346 (rule R238). -/
def execSia (wait : Bool) (s : State) : Out := s.inOut (iotWord wait 0o03 0o46)

/-- `sdf` 720146 (rule R239). -/
def execSdf (wait : Bool) (s : State) : Out := s.inOut (iotWord wait 0o01 0o46)

/-- `ric` 720366 (rule R240). -/
def execRic (wait : Bool) (s : State) : Out := s.inOut (iotWord wait 0o03 0o66)

/-- `shr` 720446 (rule R241). -/
def execShr (wait : Bool) (s : State) : Out := s.inOut (iotWord wait 0o04 0o46)

/-- `dpy` 720007 (rule R242). -/
def execDpy (wait : Bool) (b : BitVec 3) (s : State) : Out := s.inOut (iotWord wait ((0o0 : BitVec 3) ++ b) 0o07)

/-- `gpl` 722027 (rule R243). -/
def execGpl (wait : Bool) (s : State) : Out := s.inOut (iotWord wait 0o20 0o27)

/-- `gpr` 720027 (rule R244). -/
def execGpr (wait : Bool) (s : State) : Out := s.inOut (iotWord wait 0o00 0o27)

/-- `glf` 722026 (rule R245). -/
def execGlf (wait : Bool) (s : State) : Out := s.inOut (iotWord wait 0o20 0o26)

/-- `gsp` 720026 (rule R246). -/
def execGsp (wait : Bool) (s : State) : Out := s.inOut (iotWord wait 0o00 0o26)

/-- `sdb` 722007 (rule R247). -/
def execSdb (wait : Bool) (s : State) : Out := s.inOut (iotWord wait 0o20 0o07)

/-- `dpp` 720407 (rule R248). -/
def execDpp (wait : Bool) (s : State) : Out := s.inOut (iotWord wait 0o04 0o07)

end Sys2Proof.Machine
end

