-- ==== Sys2Proof/Machine/InOutOptions.lean ====
section
/-! DEFINITION. The optional devices' instructions (46_iot_options.md rules R260 to R304). -/

namespace Sys2Proof.Machine

/-- `lag` 720044 (rule R260). -/
def execLag (wait : Bool) (s : State) : Out := s.inOut (iotWord wait 0o00 0o44)

/-- `pac` 720043 (rule R261). -/
def execPac (wait : Bool) (s : State) : Out := s.inOut (iotWord wait 0o00 0o43)

/-- `rac` 720041 (rule R262). -/
def execRac (wait : Bool) (s : State) : Out := s.inOut (iotWord wait 0o00 0o41)

/-- `rbc` 720042 (rule R263). -/
def execRbc (wait : Bool) (s : State) : Out := s.inOut (iotWord wait 0o00 0o42)

/-- `rcc` 720032 (rule R264). -/
def execRcc (wait : Bool) (s : State) : Out := s.inOut (iotWord wait 0o00 0o32)

/-- `msm` 720073 (rule R265). -/
def execMsm (wait : Bool) (s : State) : Out := s.inOut (iotWord wait 0o00 0o73)

/-- `mcs` 720034 (rule R266). -/
def execMcs (wait : Bool) (s : State) : Out := s.inOut (iotWord wait 0o00 0o34)

/-- `mcb` 720070 (rule R267). -/
def execMcb (wait : Bool) (s : State) : Out := s.inOut (iotWord wait 0o00 0o70)

/-- `mwc` 720071 (rule R268). -/
def execMwc (wait : Bool) (s : State) : Out := s.inOut (iotWord wait 0o00 0o71)

/-- `mrc` 720072 (rule R269). -/
def execMrc (wait : Bool) (s : State) : Out := s.inOut (iotWord wait 0o00 0o72)

/-- `muf` 72ue76 (rule R270). -/
def execMuf (wait : Bool) (u : BitVec 3) (e : BitVec 3) (s : State) : Out := s.inOut (iotWord wait (u ++ e) 0o76)

/-- `mic` 72uc75 (rule R271). -/
def execMic (wait : Bool) (u : BitVec 3) (c : BitVec 3) (s : State) : Out := s.inOut (iotWord wait (u ++ c) 0o75)

/-- `mrf` 72u067 (rule R272). -/
def execMrf (wait : Bool) (u : BitVec 3) (s : State) : Out := s.inOut (iotWord wait (u ++ (0 : BitVec 3)) 0o67)

/-- `mri` 72ug66 (rule R273). -/
def execMri (wait : Bool) (u : BitVec 3) (g : BitVec 3) (s : State) : Out := s.inOut (iotWord wait (u ++ g) 0o66)

/-- `mes` 72u035 (rule R274). -/
def execMes (wait : Bool) (u : BitVec 3) (s : State) : Out := s.inOut (iotWord wait (u ++ (0 : BitVec 3)) 0o35)

/-- `mel` 72u036 (rule R275). -/
def execMel (wait : Bool) (u : BitVec 3) (s : State) : Out := s.inOut (iotWord wait (u ++ (0 : BitVec 3)) 0o36)

/-- `inr` 72ur67 (rule R276). -/
def execInr (wait : Bool) (u : BitVec 3) (r : BitVec 3) (s : State) : Out := s.inOut (iotWord wait (u ++ r) 0o67)

/-- `ccr` 72s067 (rule R277). -/
def execCcr (wait : Bool) (digit : BitVec 3) (s : State) : Out := s.inOut (iotWord wait (digit ++ (0 : BitVec 3)) 0o67)

/-- `sfc` 720072 (rule R278). -/
def execSfc (wait : Bool) (s : State) : Out := s.inOut (iotWord wait 0o00 0o72)

/-- `rsr` 720172 (rule R279). -/
def execRsr (wait : Bool) (s : State) : Out := s.inOut (iotWord wait 0o01 0o72)

/-- `crf` 720272 (rule R280). -/
def execCrf (wait : Bool) (s : State) : Out := s.inOut (iotWord wait 0o02 0o72)

/-- `cpm` 720472 (rule R281). -/
def execCpm (wait : Bool) (s : State) : Out := s.inOut (iotWord wait 0o04 0o72)

/-- `dur` 72xx70 (rule R282). -/
def execDur (wait : Bool) (xx : BitVec 6) (s : State) : Out := s.inOut (iotWord wait xx 0o70)

/-- `mtf` 73xx71 (rule R283). -/
def execMtf (wait : Bool) (xx : BitVec 6) (s : State) : Out := s.inOut (iotWord wait xx 0o71)

/-- `cgo` 720073 (rule R284). -/
def execCgo (wait : Bool) (s : State) : Out := s.inOut (iotWord wait 0o00 0o73)

/-- `rcb` 720031 (rule R285). -/
def execRcb (wait : Bool) (s : State) : Out := s.inOut (iotWord wait 0o00 0o31)

/-- `cad` 720040 (rule R286). -/
def execCad (wait : Bool) (s : State) : Out := s.inOut (iotWord wait 0o00 0o40)

/-- `scv` 72mm47 (rule R287). -/
def execScv (wait : Bool) (mm : BitVec 6) (s : State) : Out := s.inOut (iotWord wait mm 0o47)

/-- `icv` 720060 (rule R288). -/
def execIcv (wait : Bool) (s : State) : Out := s.inOut (iotWord wait 0o00 0o60)

/-- `cirbuf` 722045 (rule R289). -/
def execCirbuf (wait : Bool) (s : State) : Out := s.inOut (iotWord wait 0o20 0o45)

/-- `lpb` 720045 (rule R290). -/
def execLpb (wait : Bool) (s : State) : Out := s.inOut (iotWord wait 0o00 0o45)

/-- `pas` 721x45 (rule R291). -/
def execPas (wait : Bool) (x : BitVec 3) (s : State) : Out := s.inOut (iotWord wait ((0o1 : BitVec 3) ++ x) 0o45)

/-- `dia` 72XX61 (rule R292). -/
def execDia (wait : Bool) (xx : BitVec 6) (s : State) : Out := s.inOut (iotWord wait xx 0o61)

/-- `dwc` 72XX62 (rule R293). -/
def execDwc (wait : Bool) (xx : BitVec 6) (s : State) : Out := s.inOut (iotWord wait xx 0o62)

/-- `dcl` 72XX63 (rule R294). -/
def execDcl (wait : Bool) (xx : BitVec 6) (s : State) : Out := s.inOut (iotWord wait xx 0o63)

/-- `dba` 722061 (rule R295). -/
def execDba (wait : Bool) (s : State) : Out := s.inOut (iotWord wait 0o20 0o61)

/-- `dra` 722062 (rule R296). -/
def execDra (wait : Bool) (s : State) : Out := s.inOut (iotWord wait 0o20 0o62)

/-- `rch` 720022 (rule R297). -/
def execRch (wait : Bool) (s : State) : Out := s.inOut (iotWord wait 0o00 0o22)

/-- `rcr.630` 721022 (rule R298). -/
def execRcr630 (wait : Bool) (s : State) : Out := s.inOut (iotWord wait 0o10 0o22)

/-- `tcc` 725022 (rule R299). -/
def execTcc (wait : Bool) (s : State) : Out := s.inOut (iotWord wait 0o50 0o22)

/-- `tcb` 724022 (rule R300). -/
def execTcb (wait : Bool) (s : State) : Out := s.inOut (iotWord wait 0o40 0o22)

/-- `rrc` 720122 (rule R301). -/
def execRrc (wait : Bool) (s : State) : Out := s.inOut (iotWord wait 0o01 0o22)

/-- `ssb` 724122 (rule R302). -/
def execSsb (wait : Bool) (s : State) : Out := s.inOut (iotWord wait 0o41 0o22)

/-- `rsc` 721122 (rule R303). -/
def execRsc (wait : Bool) (s : State) : Out := s.inOut (iotWord wait 0o11 0o22)

/-- `iot 11` 720011 (rule R304). -/
def execIot11 (wait : Bool) (s : State) : Out := s.inOut (iotWord wait 0o00 0o11)

end Sys2Proof.Machine
end

