-- ==== Sys2Proof/Machine/LoadStore.lean ====
section
/-! DEFINITION. The logic, load and deposit instructions (40_basic_instructions.md). -/

namespace Sys2Proof.Machine

/-- `and Y` (rule R112). -/
def execAnd (i : Bool) (y : Addr) (s : State) : Out :=
  withOperand i y s fun b s1 => .next { s1 with ac := s1.ac &&& b }

/-- `ior Y` (rule R122). -/
def execIor (i : Bool) (y : Addr) (s : State) : Out :=
  withOperand i y s fun b s1 => .next { s1 with ac := s1.ac ||| b }

/-- `xor Y` (rule R141). -/
def execXor (i : Bool) (y : Addr) (s : State) : Out :=
  withOperand i y s fun b s1 => .next { s1 with ac := s1.ac ^^^ b }

/-- `lac Y` (rule R128). -/
def execLac (i : Bool) (y : Addr) (s : State) : Out :=
  withOperand i y s fun b s1 => .next { s1 with ac := b }

/-- `lio Y` (rule R131). -/
def execLio (i : Bool) (y : Addr) (s : State) : Out :=
  withOperand i y s fun b s1 => .next { s1 with io := b }

/-- `dac Y` (rule R114). -/
def execDac (i : Bool) (y : Addr) (s : State) : Out :=
  withAddress i y s fun e s1 => .next (s1.writeWord e s1.ac)

/-- `dap Y`: bits 6 to 17 from AC, bits 0 to 5 kept (rule R115). -/
def execDap (i : Bool) (y : Addr) (s : State) : Out :=
  withAddress i y s fun e s1 => .next (s1.writeWord e (instrPart (s1.readWord e) ++ addrPart s1.ac))

/-- `dip Y`: bits 0 to 5 from AC, bits 6 to 17 kept (rule R117). -/
def execDip (i : Bool) (y : Addr) (s : State) : Out :=
  withAddress i y s fun e s1 => .next (s1.writeWord e (instrPart s1.ac ++ addrPart (s1.readWord e)))

/-- `dio Y` (rule R116). -/
def execDio (i : Bool) (y : Addr) (s : State) : Out :=
  withAddress i y s fun e s1 => .next (s1.writeWord e s1.io)

/-- `dzm Y` (rule R120). -/
def execDzm (i : Bool) (y : Addr) (s : State) : Out :=
  withAddress i y s fun e s1 => .next (s1.writeWord e 0)

/-- `law N`: N zero-extended (rule R129). -/
def execLaw (n : Addr) (s : State) : Out := .next { s with ac := n.setWidth 18 }

/-- `law -N`: the complement of N zero-extended (rule R130). -/
def execLawNeg (n : Addr) (s : State) : Out := .next { s with ac := ~~~(n.setWidth 18) }

end Sys2Proof.Machine
end

