-- ==== Sys2Proof/Machine/Operate.lean ====
section
/-! DEFINITION. The operate group (42_operate_group.md; `lia`, `lai`, `swp`, `cmi` of 47_pdp1d.md). -/

namespace Sys2Proof.Machine

/-- `cli`, step 1 of rule R161. -/
def State.clearIo (s : State) : State := { s with io := 0 }

/-- `cla`, step 2. -/
def State.clearAc (s : State) : State := { s with ac := 0 }

/-- The test word transfer, step 3: an inclusive OR into AC (rule R168). -/
def State.orTestWord (s : State) : State := { s with ac := s.ac ||| s.tw }

/-- The program counter transfer, step 4: an inclusive OR into AC (rule R167). -/
def State.orPcword (s : State) : State := { s with ac := s.ac ||| s.pcword }

/-- `cma`, step 5. -/
def State.complementAc (s : State) : State := { s with ac := ~~~s.ac }

/-- `cmi`, step 6, PDP-1D (rule R328). -/
def State.complementIo (s : State) : State := { s with io := ~~~s.io }

/-- `lia` and `lai`, step 6, PDP-1D: each reads the other register's old value (rules R325 to R327). -/
def State.exchange (s : State) (lia lai : Bool) : State :=
  { s with io := if lia then s.ac else s.io, ac := if lai then s.io else s.ac }

/-- `stf` and `clf`, step 7. -/
def State.setFlags (s : State) (f : BitVec 3) (v : Bool) : State := { s with pf := setSelected s.pf f v }

/-- Do a micro-operation when its bit is set. -/
def State.doIf (s : State) (c : Bool) (micro : State → State) : State := if c then micro s else s

/-- Every selected micro-operation in the order of rule R161. -/
def operate (bits : BitVec 13) (s : State) : State :=
  let s := s.doIf (bit 6 bits) State.clearIo
  let s := s.doIf (bit 10 bits || (bit 11 bits && s.cfg.lapClears)) State.clearAc
  let s := s.doIf (bit 7 bits) State.orTestWord
  let s := s.doIf (bit 11 bits) State.orPcword
  let s := s.doIf (bit 8 bits) State.complementAc
  let s := s.doIf (s.cfg.pdp1d && bit 5 bits) State.complementIo
  let s := s.doIf s.cfg.pdp1d fun t => t.exchange (bit 13 bits) (bit 12 bits)
  let s := s.setFlags (bits.extractLsb' 0 3) (bit 14 bits)
  s.doIf (bit 9 bits) State.halt

/-- `opr`, any operate-group word by its bits 5 to 17 (rules R134, R161). -/
def execOpr (bits : BitVec 13) (s : State) : Out := .next (operate bits s)

/-- `nop` (rule R169). -/
def execNop (s : State) : Out := .next s

/-- `cla` (rule R162). -/
def execCla (s : State) : Out := .next s.clearAc

/-- `cli` (rule R164). -/
def execCli (s : State) : Out := .next s.clearIo

/-- `cma` (rule R165). -/
def execCma (s : State) : Out := .next s.complementAc

/-- `hlt` (rule R166). -/
def execHlt (s : State) : Out := .next s.halt

/-- `lap` (rule R167): whether the bit clears AC first is the parameter P_LAP_CLEARS. -/
def execLap (s : State) : Out := .next (s.doIf s.cfg.lapClears State.clearAc).orPcword

/-- `lat` (rule R168): with the `cla` bit, the listed load; without it, the transfer alone. -/
def execLat (clear : Bool) (s : State) : Out := .next (s.doIf clear State.clearAc).orTestWord

/-- `clf f` (rule R163). -/
def execClf (f : BitVec 3) (s : State) : Out := .next (s.setFlags f false)

/-- `stf f` (rule R170). -/
def execStf (f : BitVec 3) (s : State) : Out := .next (s.setFlags f true)

/-- `lia` (rule R325). -/
def execLia (s : State) : Out := .next (s.exchange true false)

/-- `lai` (rule R326). -/
def execLai (s : State) : Out := .next (s.exchange false true)

/-- `swp` (rule R327). -/
def execSwp (s : State) : Out := .next (s.exchange true true)

/-- `cmi` (rule R328). -/
def execCmi (s : State) : Out := .next s.complementIo

end Sys2Proof.Machine
end

