-- ==== Sys2Proof/Machine/Pdp1d.lean ====
section
/-! DEFINITION. The PDP-1D instructions that the spec decodes and refuses (47_pdp1d.md rules R320 to R322, R329 to R349;
decision D32): their semantics is not in the source, and 10_state.md rule R35 forbids a model to give them any. -/

namespace Sys2Proof.Machine

/-- `lch` (rule R320). -/
def execLch (_i : Bool) (_y : Addr) (_s : State) : Out := .refused .characterInstruction

/-- `dch` (rule R321). -/
def execDch (_i : Bool) (_y : Addr) (_s : State) : Out := .refused .characterInstruction

/-- `tad` (rule R322). -/
def execTad (_i : Bool) (_y : Addr) (_s : State) : Out := .refused .twosComplementAdd

/-- Any word of code 74 (rule R329). -/
def execSpecial (_bits : BitVec 13) (_s : State) : Out := .refused .group74

/-- `ifi` (rule R330). -/
def execIfi (_s : State) : Out := .refused .group74

/-- `idc` (rule R331). -/
def execIdc (_s : State) : Out := .refused .group74

/-- `ida` (rule R332). -/
def execIda (_s : State) : Out := .refused .group74

/-- `scm` (rule R333). -/
def execScm (_s : State) : Out := .refused .group74

/-- `sci` (rule R334). -/
def execSci (_s : State) : Out := .refused .group74

/-- `scf` (rule R335). -/
def execScf (_s : State) : Out := .refused .group74

/-- `szl` (rule R336). -/
def execSzl (_s : State) : Out := .refused .group74

/-- `cll` (rule R337). -/
def execCll (_s : State) : Out := .refused .group74

/-- `cml` (rule R338). -/
def execCml (_s : State) : Out := .refused .group74

/-- `erg` 720011 (rule R339). Refused: no source defines its `dev_iot`. -/
def execErg (_wait : Bool) (_s : State) : Out := .refused .pdp1dInOut

/-- `lrg` 720010 (rule R340). Refused: no source defines its `dev_iot`. -/
def execLrg (_wait : Bool) (_s : State) : Out := .refused .pdp1dInOut

/-- `lrm` 720064 (rule R341). Refused: no source defines its `dev_iot`. -/
def execLrm (_wait : Bool) (_s : State) : Out := .refused .pdp1dInOut

/-- `erm` 720065 (rule R342). Refused: no source defines its `dev_iot`. -/
def execErm (_wait : Bool) (_s : State) : Out := .refused .pdp1dInOut

/-- `rnm` 720066 (rule R343). Refused: no source defines its `dev_iot`. -/
def execRnm (_wait : Bool) (_s : State) : Out := .refused .pdp1dInOut

/-- `rsm` 720067 (rule R344). Refused: no source defines its `dev_iot`. -/
def execRsm (_wait : Bool) (_s : State) : Out := .refused .pdp1dInOut

/-- `rck` 72XX32 (rule R345). Refused: no source defines its `dev_iot`. -/
def execRck (_wait : Bool) (_xx : BitVec 6) (_s : State) : Out := .refused .pdp1dInOut

/-- `ctb` 72XX35 (rule R346). Refused: no source defines its `dev_iot`. -/
def execCtb (_wait : Bool) (_xx : BitVec 6) (_s : State) : Out := .refused .pdp1dInOut

/-- `rro` 72XX17 (rule R347). Refused: no source defines its `dev_iot`. -/
def execRro (_wait : Bool) (_xx : BitVec 6) (_s : State) : Out := .refused .pdp1dInOut

/-- `rri` 72XX37 (rule R348). Refused: no source defines its `dev_iot`. -/
def execRri (_wait : Bool) (_xx : BitVec 6) (_s : State) : Out := .refused .pdp1dInOut

/-- `gcf` 720127 (rule R349). Refused: no source defines its `dev_iot`. -/
def execGcf (_wait : Bool) (_s : State) : Out := .refused .pdp1dInOut

end Sys2Proof.Machine
end

