-- ==== Sys2Proof/Machine/Shift.lean ====
section
/-! DEFINITION. The shift/rotate group (44_shift_rotate_group.md). -/

namespace Sys2Proof.Machine

/-- Rotate left one place: the bit leaving the left end enters at the right end (rule R214). -/
def rotateLeft1 {v : Nat} (r : BitVec v) : BitVec v := (r <<< 1) ||| (r >>> (v - 1))

/-- Rotate right one place (rule R214). -/
def rotateRight1 {v : Nat} (r : BitVec v) : BitVec v := (r >>> 1) ||| (r <<< (v - 1))

/-- Shift left one place: the sign stays, bit 1 is lost, the sign enters at the right end (rule R214). -/
def shiftLeft1 {v : Nat} (r : BitVec v) : BitVec v :=
  if r.msb then (r <<< 1) ||| 1 ||| BitVec.intMin v else (r <<< 1) &&& ~~~(BitVec.intMin v)

/-- Shift right one place: the sign stays and is copied into bit 1, the right end is lost (rule R214). -/
def shiftRight1 {v : Nat} (r : BitVec v) : BitVec v := r.sshiftRight 1

/-- The one-place operation that the direction and kind select (rule R200). -/
def place {v : Nat} (right shift : Bool) (r : BitVec v) : BitVec v :=
  match right, shift with
  | false, false => rotateLeft1 r
  | true, false => rotateRight1 r
  | false, true => shiftLeft1 r
  | true, true => shiftRight1 r

/-- Apply a one-place operation n times in succession (rule R200). -/
def times {v : Nat} (n : Nat) (f : BitVec v → BitVec v) (r : BitVec v) : BitVec v :=
  match n with
  | 0 => r
  | k + 1 => times k f (f r)

/-- The combined register `AC ++ IO` (10_state.md rule R22). -/
def State.combined (s : State) : BitVec 36 := s.ac ++ s.io

/-- Shift or rotate AC. -/
def State.shiftAc (s : State) (right shift : Bool) (mask : BitVec 9) : State :=
  { s with ac := times (popcount mask) (place right shift) s.ac }

/-- Shift or rotate IO. -/
def State.shiftIo (s : State) (right shift : Bool) (mask : BitVec 9) : State :=
  { s with io := times (popcount mask) (place right shift) s.io }

/-- Shift or rotate the combined register. -/
def State.shiftBoth (s : State) (right shift : Bool) (mask : BitVec 9) : State :=
  let r := times (popcount mask) (place right shift) s.combined
  { s with ac := r.extractLsb' 18 18, io := r.extractLsb' 0 18 }

/-- `sft`, any shift/rotate word by its bits 5 to 17 (rule R200); a word that selects no register changes nothing (R213). -/
def execSft (bits : BitVec 13) (s : State) : Out :=
  let mask := bits.extractLsb' 0 9
  match bit 7 bits, bit 8 bits with
  | false, true => .next (s.shiftAc (bit 5 bits) (bit 6 bits) mask)
  | true, false => .next (s.shiftIo (bit 5 bits) (bit 6 bits) mask)
  | true, true => .next (s.shiftBoth (bit 5 bits) (bit 6 bits) mask)
  | false, false => .next s

/-- A word that selects no register: nothing changes (rule R213). -/
def execSftNoRegister (_right _shift : Bool) (_mask : BitVec 9) (s : State) : Out := .next s

/-- `ral`: rotate AC left (rule R201). -/
def execRal (mask : BitVec 9) (s : State) : Out := .next (s.shiftAc false false mask)

/-- `rar`: rotate AC right (rule R202). -/
def execRar (mask : BitVec 9) (s : State) : Out := .next (s.shiftAc true false mask)

/-- `rcl`: rotate AC and IO left (rule R203). -/
def execRcl (mask : BitVec 9) (s : State) : Out := .next (s.shiftBoth false false mask)

/-- `rcr`: rotate AC and IO right (rule R204). -/
def execRcr (mask : BitVec 9) (s : State) : Out := .next (s.shiftBoth true false mask)

/-- `ril`: rotate IO left (rule R205). -/
def execRil (mask : BitVec 9) (s : State) : Out := .next (s.shiftIo false false mask)

/-- `rir`: rotate IO right (rule R206). -/
def execRir (mask : BitVec 9) (s : State) : Out := .next (s.shiftIo true false mask)

/-- `sal`: shift AC left (rule R207). -/
def execSal (mask : BitVec 9) (s : State) : Out := .next (s.shiftAc false true mask)

/-- `sar`: shift AC right (rule R208). -/
def execSar (mask : BitVec 9) (s : State) : Out := .next (s.shiftAc true true mask)

/-- `scl`: shift AC and IO left (rule R209). -/
def execScl (mask : BitVec 9) (s : State) : Out := .next (s.shiftBoth false true mask)

/-- `scr`: shift AC and IO right (rule R210). -/
def execScr (mask : BitVec 9) (s : State) : Out := .next (s.shiftBoth true true mask)

/-- `sil`: shift IO left (rule R211). -/
def execSil (mask : BitVec 9) (s : State) : Out := .next (s.shiftIo false true mask)

/-- `sir`: shift IO right (rule R212). -/
def execSir (mask : BitVec 9) (s : State) : Out := .next (s.shiftIo true true mask)

end Sys2Proof.Machine
end

