-- ==== Sys2Proof/Machine/Skip.lean ====
section
/-! DEFINITION. The skip group (43_skip_group.md; `sni` and `szi` of 47_pdp1d.md). -/

namespace Sys2Proof.Machine

/-- `sza`: AC is +0 (rule R184). -/
def State.acZero (s : State) : Bool := s.ac == 0

/-- `spa`: the sign of AC is 0 (rule R182). -/
def State.acPlus (s : State) : Bool := !sign s.ac

/-- `sma`: the sign of AC is 1 (rule R181). -/
def State.acMinus (s : State) : Bool := sign s.ac

/-- `szo`: OV is 0 (rule R186). -/
def State.ovZero (s : State) : Bool := !s.ov

/-- `spi`: the sign of IO is 0 (rule R183). -/
def State.ioPlus (s : State) : Bool := !sign s.io

/-- `sni`: IO is not +0 (rule R323). -/
def State.ioNonZero (s : State) : Bool := s.io != 0

/-- Skip on a condition, which a set i-bit inverts (rule R189). -/
def State.skipOn (s : State) (inv c : Bool) : State := s.skipIf (c != inv)

/-- The combined condition of a skip word: the inclusive OR of the selected conditions (rule R180). -/
def skipCondition (bits : BitVec 13) (s : State) : Bool :=
  (bit 11 bits && s.acZero) || (bit 10 bits && s.acPlus) || (bit 9 bits && s.acMinus) || (bit 8 bits && s.ovZero) ||
  (bit 7 bits && s.ioPlus) || (s.cfg.pdp1d && bit 6 bits && s.ioNonZero) ||
  selectedZero s.ss (bits.extractLsb' 3 3) || selectedZero s.pf (bits.extractLsb' 0 3)

/-- `skp`, any skip-group word by its bits 5 to 17 (rule R180): `szo` clears OV whether or not the word skips. -/
def execSkp (bits : BitVec 13) (s : State) : Out :=
  let s1 := if bit 8 bits then { s with ov := false } else s
  .next (s1.skipOn (bit 5 bits) (skipCondition bits s))

/-- `sma` (rule R181). -/
def execSma (inv : Bool) (s : State) : Out := .next (s.skipOn inv s.acMinus)

/-- `spa` (rule R182). -/
def execSpa (inv : Bool) (s : State) : Out := .next (s.skipOn inv s.acPlus)

/-- `spi` (rule R183). -/
def execSpi (inv : Bool) (s : State) : Out := .next (s.skipOn inv s.ioPlus)

/-- `sza` (rule R184). -/
def execSza (inv : Bool) (s : State) : Out := .next (s.skipOn inv s.acZero)

/-- `szo`: tests OV and clears it (rule R186). -/
def execSzo (inv : Bool) (s : State) : Out := .next ({ s with ov := false }.skipOn inv s.ovZero)

/-- `szf f` (rule R185). -/
def execSzf (inv : Bool) (f : BitVec 3) (s : State) : Out := .next (s.skipOn inv (selectedZero s.pf f))

/-- `szs s` (rule R187). -/
def execSzs (inv : Bool) (n : BitVec 3) (s : State) : Out := .next (s.skipOn inv (selectedZero s.ss n))

/-- `sni` (rule R323). -/
def execSni (s : State) : Out := .next (s.skipOn false s.ioNonZero)

/-- `szi`, `sni` with the i-bit (rule R324). -/
def execSzi (s : State) : Out := .next (s.skipOn true s.ioNonZero)

end Sys2Proof.Machine
end

