-- ==== Sys2Proof/Machine/Xct.lean ====
section
/-! DEFINITION. `xct` (40_basic_instructions.md rule R140). -/

namespace Sys2Proof.Machine

/-- `exec(x)` for the instruction an `xct` executes, PC still at the word after the `xct`. A chain of `xct` is followed by
`xctTarget`, which never hands one over; that arm is not reached. -/
def performed (x : Instr) (s : State) : Out :=
  match x with
  | .and d y => execAnd d y s
  | .ior d y => execIor d y s
  | .xor d y => execXor d y s
  | .xct _ _ => .fault .xctLoop
  | .lac d y => execLac d y s
  | .lio d y => execLio d y s
  | .dac d y => execDac d y s
  | .dap d y => execDap d y s
  | .dip d y => execDip d y s
  | .dio d y => execDio d y s
  | .dzm d y => execDzm d y s
  | .add d y => execAdd d y s
  | .sub d y => execSub d y s
  | .idx d y => execIdx d y s
  | .isp d y => execIsp d y s
  | .sad d y => execSad d y s
  | .sas d y => execSas d y s
  | .mus d y => execMus d y s
  | .mul d y => execMul d y s
  | .dis d y => execDis d y s
  | .div d y => execDiv d y s
  | .jmp d y => execJmp d y s
  | .jsp d y => execJsp d y s
  | .cal y => execCal y s
  | .jda y => execJda y s
  | .law n => execLaw n s
  | .lawNeg n => execLawNeg n s
  | .spare00 rest => execSpare00 rest s
  | .spare12 rest => execSpare12 rest s
  | .spare14 rest => execSpare14 rest s
  | .spare36 rest => execSpare36 rest s
  | .spare74 rest => execSpare74 rest s
  | .skp bits => execSkp bits s
  | .sma inv => execSma inv s
  | .spa inv => execSpa inv s
  | .spi inv => execSpi inv s
  | .sza inv => execSza inv s
  | .szo inv => execSzo inv s
  | .szf inv f => execSzf inv f s
  | .szs inv n => execSzs inv n s
  | .sni => execSni s
  | .szi => execSzi s
  | .sft bits => execSft bits s
  | .ral mask => execRal mask s
  | .rar mask => execRar mask s
  | .rcl mask => execRcl mask s
  | .rcr mask => execRcr mask s
  | .ril mask => execRil mask s
  | .rir mask => execRir mask s
  | .sal mask => execSal mask s
  | .sar mask => execSar mask s
  | .scl mask => execScl mask s
  | .scr mask => execScr mask s
  | .sil mask => execSil mask s
  | .sir mask => execSir mask s
  | .sftNoRegister right shift mask => execSftNoRegister right shift mask s
  | .opr bits => execOpr bits s
  | .nop => execNop s
  | .cla => execCla s
  | .cli => execCli s
  | .cma => execCma s
  | .hlt => execHlt s
  | .lap => execLap s
  | .lat clear => execLat clear s
  | .clf f => execClf f s
  | .stf f => execStf f s
  | .lia => execLia s
  | .lai => execLai s
  | .swp => execSwp s
  | .cmi => execCmi s
  | .lch d y => execLch d y s
  | .dch d y => execDch d y s
  | .tad d y => execTad d y s
  | .special bits => execSpecial bits s
  | .ifi => execIfi s
  | .idc => execIdc s
  | .ida => execIda s
  | .scm => execScm s
  | .sci => execSci s
  | .scf => execScf s
  | .szl => execSzl s
  | .cll => execCll s
  | .cml => execCml s
  | .iot wait y => execIot wait y s
  | .ioh => execIoh s
  | .rpa wait => execRpa wait s
  | .rpb wait => execRpb wait s
  | .rrb wait => execRrb wait s
  | .ppa wait => execPpa wait s
  | .ppb wait => execPpb wait s
  | .tyo wait => execTyo wait s
  | .tyi wait => execTyi wait s
  | .esm wait => execEsm wait s
  | .lsm wait => execLsm wait s
  | .cbs wait => execCbs wait s
  | .dsc wait k n => execDsc wait k n s
  | .asc wait k n => execAsc wait k n s
  | .isb wait k n => execIsb wait k n s
  | .cac wait => execCac wait s
  | .swc wait x => execSwc wait x s
  | .sia wait => execSia wait s
  | .sdf wait => execSdf wait s
  | .ric wait => execRic wait s
  | .shr wait => execShr wait s
  | .dpy wait b => execDpy wait b s
  | .gpl wait => execGpl wait s
  | .gpr wait => execGpr wait s
  | .glf wait => execGlf wait s
  | .gsp wait => execGsp wait s
  | .sdb wait => execSdb wait s
  | .dpp wait => execDpp wait s
  | .lag wait => execLag wait s
  | .pac wait => execPac wait s
  | .rac wait => execRac wait s
  | .rbc wait => execRbc wait s
  | .rcc wait => execRcc wait s
  | .msm wait => execMsm wait s
  | .mcs wait => execMcs wait s
  | .mcb wait => execMcb wait s
  | .mwc wait => execMwc wait s
  | .mrc wait => execMrc wait s
  | .muf wait u e => execMuf wait u e s
  | .mic wait u c => execMic wait u c s
  | .mrf wait u => execMrf wait u s
  | .mri wait u g => execMri wait u g s
  | .mes wait u => execMes wait u s
  | .mel wait u => execMel wait u s
  | .inr wait u r => execInr wait u r s
  | .ccr wait digit => execCcr wait digit s
  | .sfc wait => execSfc wait s
  | .rsr wait => execRsr wait s
  | .crf wait => execCrf wait s
  | .cpm wait => execCpm wait s
  | .dur wait xx => execDur wait xx s
  | .mtf wait xx => execMtf wait xx s
  | .cgo wait => execCgo wait s
  | .rcb wait => execRcb wait s
  | .cad wait => execCad wait s
  | .scv wait mm => execScv wait mm s
  | .icv wait => execIcv wait s
  | .cirbuf wait => execCirbuf wait s
  | .lpb wait => execLpb wait s
  | .pas wait x => execPas wait x s
  | .dia wait xx => execDia wait xx s
  | .dwc wait xx => execDwc wait xx s
  | .dcl wait xx => execDcl wait xx s
  | .dba wait => execDba wait s
  | .dra wait => execDra wait s
  | .rch wait => execRch wait s
  | .rcr630 wait => execRcr630 wait s
  | .tcc wait => execTcc wait s
  | .tcb wait => execTcb wait s
  | .rrc wait => execRrc wait s
  | .ssb wait => execSsb wait s
  | .rsc wait => execRsc wait s
  | .iot11 wait => execIot11 wait s
  | .erg wait => execErg wait s
  | .lrg wait => execLrg wait s
  | .lrm wait => execLrm wait s
  | .erm wait => execErm wait s
  | .rnm wait => execRnm wait s
  | .rsm wait => execRsm wait s
  | .rck wait xx => execRck wait xx s
  | .ctb wait xx => execCtb wait xx s
  | .rro wait xx => execRro wait xx s
  | .rri wait xx => execRri wait xx s
  | .gcf wait => execGcf wait s

/-- Follow a chain of `xct` to the first word that is another instruction, with the state after the reads (MB). The fuel
counts the `xct` instructions; after 4097 the chain has come back to a word it has executed, so it never ends (R140(5)). -/
def xctTarget : Nat → Bool → Addr → State → Except Fault (Instr × State)
  | 0, _, _, _ => .error .xctLoop
  | fuel + 1, i, y, s =>
    match s.ea i y with
    | none => .error .deferLoop
    | some (e, s1) =>
      match decode s1.cfg (s1.readWord e) with
      | .xct j z => xctTarget fuel j z (s1.afterRead e)
      | x => .ok (x, s1.afterRead e)

/-- `xct Y` (rule R140). -/
def execXct (i : Bool) (y : Addr) (s : State) : Out :=
  match xctTarget (memoryWords + 1) i y s with
  | .error f => .fault f
  | .ok (x, s1) => performed x s1

end Sys2Proof.Machine
end

