-- ==== Sys2Proof/Machine/Dispatch.lean ====
section
/-! DEFINITION. One arm per instruction (10_state.md rule R27: `exec(w)` after the fetch has advanced PC). -/

namespace Sys2Proof.Machine

/-- What an instruction does to the state that the fetch has left. -/
def exec (i : Instr) (s : State) : Host.Outcome State Fault Refusal :=
  match i with
  | .and d y => Sys2Proof.Machine.execAnd d y s
  | .ior d y => Sys2Proof.Machine.execIor d y s
  | .xor d y => Sys2Proof.Machine.execXor d y s
  | .xct d y => Sys2Proof.Machine.execXct d y s
  | .lac d y => Sys2Proof.Machine.execLac d y s
  | .lio d y => Sys2Proof.Machine.execLio d y s
  | .dac d y => Sys2Proof.Machine.execDac d y s
  | .dap d y => Sys2Proof.Machine.execDap d y s
  | .dip d y => Sys2Proof.Machine.execDip d y s
  | .dio d y => Sys2Proof.Machine.execDio d y s
  | .dzm d y => Sys2Proof.Machine.execDzm d y s
  | .add d y => Sys2Proof.Machine.execAdd d y s
  | .sub d y => Sys2Proof.Machine.execSub d y s
  | .idx d y => Sys2Proof.Machine.execIdx d y s
  | .isp d y => Sys2Proof.Machine.execIsp d y s
  | .sad d y => Sys2Proof.Machine.execSad d y s
  | .sas d y => Sys2Proof.Machine.execSas d y s
  | .mus d y => Sys2Proof.Machine.execMus d y s
  | .mul d y => Sys2Proof.Machine.execMul d y s
  | .dis d y => Sys2Proof.Machine.execDis d y s
  | .div d y => Sys2Proof.Machine.execDiv d y s
  | .jmp d y => Sys2Proof.Machine.execJmp d y s
  | .jsp d y => Sys2Proof.Machine.execJsp d y s
  | .cal y => Sys2Proof.Machine.execCal y s
  | .jda y => Sys2Proof.Machine.execJda y s
  | .law n => Sys2Proof.Machine.execLaw n s
  | .lawNeg n => Sys2Proof.Machine.execLawNeg n s
  | .spare00 rest => Sys2Proof.Machine.execSpare00 rest s
  | .spare12 rest => Sys2Proof.Machine.execSpare12 rest s
  | .spare14 rest => Sys2Proof.Machine.execSpare14 rest s
  | .spare36 rest => Sys2Proof.Machine.execSpare36 rest s
  | .spare74 rest => Sys2Proof.Machine.execSpare74 rest s
  | .skp bits => Sys2Proof.Machine.execSkp bits s
  | .sma inv => Sys2Proof.Machine.execSma inv s
  | .spa inv => Sys2Proof.Machine.execSpa inv s
  | .spi inv => Sys2Proof.Machine.execSpi inv s
  | .sza inv => Sys2Proof.Machine.execSza inv s
  | .szo inv => Sys2Proof.Machine.execSzo inv s
  | .szf inv f => Sys2Proof.Machine.execSzf inv f s
  | .szs inv n => Sys2Proof.Machine.execSzs inv n s
  | .sni => Sys2Proof.Machine.execSni s
  | .szi => Sys2Proof.Machine.execSzi s
  | .sft bits => Sys2Proof.Machine.execSft bits s
  | .ral mask => Sys2Proof.Machine.execRal mask s
  | .rar mask => Sys2Proof.Machine.execRar mask s
  | .rcl mask => Sys2Proof.Machine.execRcl mask s
  | .rcr mask => Sys2Proof.Machine.execRcr mask s
  | .ril mask => Sys2Proof.Machine.execRil mask s
  | .rir mask => Sys2Proof.Machine.execRir mask s
  | .sal mask => Sys2Proof.Machine.execSal mask s
  | .sar mask => Sys2Proof.Machine.execSar mask s
  | .scl mask => Sys2Proof.Machine.execScl mask s
  | .scr mask => Sys2Proof.Machine.execScr mask s
  | .sil mask => Sys2Proof.Machine.execSil mask s
  | .sir mask => Sys2Proof.Machine.execSir mask s
  | .sftNoRegister right shift mask => Sys2Proof.Machine.execSftNoRegister right shift mask s
  | .opr bits => Sys2Proof.Machine.execOpr bits s
  | .nop => Sys2Proof.Machine.execNop s
  | .cla => Sys2Proof.Machine.execCla s
  | .cli => Sys2Proof.Machine.execCli s
  | .cma => Sys2Proof.Machine.execCma s
  | .hlt => Sys2Proof.Machine.execHlt s
  | .lap => Sys2Proof.Machine.execLap s
  | .lat clear => Sys2Proof.Machine.execLat clear s
  | .clf f => Sys2Proof.Machine.execClf f s
  | .stf f => Sys2Proof.Machine.execStf f s
  | .lia => Sys2Proof.Machine.execLia s
  | .lai => Sys2Proof.Machine.execLai s
  | .swp => Sys2Proof.Machine.execSwp s
  | .cmi => Sys2Proof.Machine.execCmi s
  | .lch d y => Sys2Proof.Machine.execLch d y s
  | .dch d y => Sys2Proof.Machine.execDch d y s
  | .tad d y => Sys2Proof.Machine.execTad d y s
  | .special bits => Sys2Proof.Machine.execSpecial bits s
  | .ifi => Sys2Proof.Machine.execIfi s
  | .idc => Sys2Proof.Machine.execIdc s
  | .ida => Sys2Proof.Machine.execIda s
  | .scm => Sys2Proof.Machine.execScm s
  | .sci => Sys2Proof.Machine.execSci s
  | .scf => Sys2Proof.Machine.execScf s
  | .szl => Sys2Proof.Machine.execSzl s
  | .cll => Sys2Proof.Machine.execCll s
  | .cml => Sys2Proof.Machine.execCml s
  | .iot wait y => Sys2Proof.Machine.execIot wait y s
  | .ioh => Sys2Proof.Machine.execIoh s
  | .rpa wait => Sys2Proof.Machine.execRpa wait s
  | .rpb wait => Sys2Proof.Machine.execRpb wait s
  | .rrb wait => Sys2Proof.Machine.execRrb wait s
  | .ppa wait => Sys2Proof.Machine.execPpa wait s
  | .ppb wait => Sys2Proof.Machine.execPpb wait s
  | .tyo wait => Sys2Proof.Machine.execTyo wait s
  | .tyi wait => Sys2Proof.Machine.execTyi wait s
  | .esm wait => Sys2Proof.Machine.execEsm wait s
  | .lsm wait => Sys2Proof.Machine.execLsm wait s
  | .cbs wait => Sys2Proof.Machine.execCbs wait s
  | .dsc wait k n => Sys2Proof.Machine.execDsc wait k n s
  | .asc wait k n => Sys2Proof.Machine.execAsc wait k n s
  | .isb wait k n => Sys2Proof.Machine.execIsb wait k n s
  | .cac wait => Sys2Proof.Machine.execCac wait s
  | .swc wait x => Sys2Proof.Machine.execSwc wait x s
  | .sia wait => Sys2Proof.Machine.execSia wait s
  | .sdf wait => Sys2Proof.Machine.execSdf wait s
  | .ric wait => Sys2Proof.Machine.execRic wait s
  | .shr wait => Sys2Proof.Machine.execShr wait s
  | .dpy wait b => Sys2Proof.Machine.execDpy wait b s
  | .gpl wait => Sys2Proof.Machine.execGpl wait s
  | .gpr wait => Sys2Proof.Machine.execGpr wait s
  | .glf wait => Sys2Proof.Machine.execGlf wait s
  | .gsp wait => Sys2Proof.Machine.execGsp wait s
  | .sdb wait => Sys2Proof.Machine.execSdb wait s
  | .dpp wait => Sys2Proof.Machine.execDpp wait s
  | .lag wait => Sys2Proof.Machine.execLag wait s
  | .pac wait => Sys2Proof.Machine.execPac wait s
  | .rac wait => Sys2Proof.Machine.execRac wait s
  | .rbc wait => Sys2Proof.Machine.execRbc wait s
  | .rcc wait => Sys2Proof.Machine.execRcc wait s
  | .msm wait => Sys2Proof.Machine.execMsm wait s
  | .mcs wait => Sys2Proof.Machine.execMcs wait s
  | .mcb wait => Sys2Proof.Machine.execMcb wait s
  | .mwc wait => Sys2Proof.Machine.execMwc wait s
  | .mrc wait => Sys2Proof.Machine.execMrc wait s
  | .muf wait u e => Sys2Proof.Machine.execMuf wait u e s
  | .mic wait u c => Sys2Proof.Machine.execMic wait u c s
  | .mrf wait u => Sys2Proof.Machine.execMrf wait u s
  | .mri wait u g => Sys2Proof.Machine.execMri wait u g s
  | .mes wait u => Sys2Proof.Machine.execMes wait u s
  | .mel wait u => Sys2Proof.Machine.execMel wait u s
  | .inr wait u r => Sys2Proof.Machine.execInr wait u r s
  | .ccr wait digit => Sys2Proof.Machine.execCcr wait digit s
  | .sfc wait => Sys2Proof.Machine.execSfc wait s
  | .rsr wait => Sys2Proof.Machine.execRsr wait s
  | .crf wait => Sys2Proof.Machine.execCrf wait s
  | .cpm wait => Sys2Proof.Machine.execCpm wait s
  | .dur wait xx => Sys2Proof.Machine.execDur wait xx s
  | .mtf wait xx => Sys2Proof.Machine.execMtf wait xx s
  | .cgo wait => Sys2Proof.Machine.execCgo wait s
  | .rcb wait => Sys2Proof.Machine.execRcb wait s
  | .cad wait => Sys2Proof.Machine.execCad wait s
  | .scv wait mm => Sys2Proof.Machine.execScv wait mm s
  | .icv wait => Sys2Proof.Machine.execIcv wait s
  | .cirbuf wait => Sys2Proof.Machine.execCirbuf wait s
  | .lpb wait => Sys2Proof.Machine.execLpb wait s
  | .pas wait x => Sys2Proof.Machine.execPas wait x s
  | .dia wait xx => Sys2Proof.Machine.execDia wait xx s
  | .dwc wait xx => Sys2Proof.Machine.execDwc wait xx s
  | .dcl wait xx => Sys2Proof.Machine.execDcl wait xx s
  | .dba wait => Sys2Proof.Machine.execDba wait s
  | .dra wait => Sys2Proof.Machine.execDra wait s
  | .rch wait => Sys2Proof.Machine.execRch wait s
  | .rcr630 wait => Sys2Proof.Machine.execRcr630 wait s
  | .tcc wait => Sys2Proof.Machine.execTcc wait s
  | .tcb wait => Sys2Proof.Machine.execTcb wait s
  | .rrc wait => Sys2Proof.Machine.execRrc wait s
  | .ssb wait => Sys2Proof.Machine.execSsb wait s
  | .rsc wait => Sys2Proof.Machine.execRsc wait s
  | .iot11 wait => Sys2Proof.Machine.execIot11 wait s
  | .erg wait => Sys2Proof.Machine.execErg wait s
  | .lrg wait => Sys2Proof.Machine.execLrg wait s
  | .lrm wait => Sys2Proof.Machine.execLrm wait s
  | .erm wait => Sys2Proof.Machine.execErm wait s
  | .rnm wait => Sys2Proof.Machine.execRnm wait s
  | .rsm wait => Sys2Proof.Machine.execRsm wait s
  | .rck wait xx => Sys2Proof.Machine.execRck wait xx s
  | .ctb wait xx => Sys2Proof.Machine.execCtb wait xx s
  | .rro wait xx => Sys2Proof.Machine.execRro wait xx s
  | .rri wait xx => Sys2Proof.Machine.execRri wait xx s
  | .gcf wait => Sys2Proof.Machine.execGcf wait s

end Sys2Proof.Machine
end

