-- ==== Sys2Proof/Machine/Step.lean ====
section
/-! DEFINITION. One step of the processor (10_state.md rule R27), and the placing of an instruction where it is fetched. -/

namespace Sys2Proof.Machine

/-- One step: none when the computer has halted; else a break, when a supplied mechanism takes one between two instructions
(60_exceptions.md rule R365); else the fetch, the advance of PC and the execution of the word (rule R27). -/
def step (s : State) : Host.Outcome State Fault Refusal :=
  if s.run then
    match s.breakDue with
    | some b => .next (s.takeBreak b)
    | none => exec (decode s.cfg (s.readWord s.pc)) s.fetched
  else .fault .halted

/-- The state with an instruction stored at PC, so that the next step fetches and runs it. Which instruction a word is
depends on the installation, so where this installation reads the word as another one than the opcode table lists, the
parameters become those under which the table lists it (notes/assumptions/6.md). -/
def State.withFetchWord (s : State) (nbits w : Nat) : State :=
  let word : Word := BitVec.ofNat 18 (w % 2 ^ nbits)
  { s with
    mem := memWrite s.mem s.pc.toNat word
    cfg := if decode s.cfg word = decode (tableConfig word) word then s.cfg else tableConfig word }

end Sys2Proof.Machine
end

