-- ==== Sys2Proof/Safety.lean ====
section
/-! DEFINITION. What counts as a safe run, and the classes of instructions that the whole-machine rules of the spec speak
of, in the terms the statements use. -/

namespace Sys2Proof.Machine

/-- The invariant of the machine: core memory is in its canonical form. -/
def State.inv (s : State) : Prop := Memory.wf s.mem = true

/-- The faults in which the processor is stuck with RUN = 1 (00_scope.md rule R16): no later state exists. -/
def Fault.stuck : Fault → Bool
  | .halted => false
  | .deferLoop => true
  | .xctLoop => true
  | .inOutWait => true

/-- The in-out option an instruction belongs to (the `option` key of opcode_table.json); none for the processor's own. -/
def deviceOf : Instr → Option Opt
  | .rpa _ | .rpb _ | .rrb _ => some .reader
  | .ppa _ | .ppb _ => some .punch
  | .tyo _ | .tyi _ => some .typewriter
  | .esm _ | .lsm _ | .cbs _ | .dsc _ _ _ | .asc _ _ _ | .isb _ _ _ | .cac _ => some .type120
  | .swc _ _ | .sia _ | .sdf _ | .ric _ | .shr _ => some .type131
  | .dpy _ _ => some .type30
  | .gpl _ | .gpr _ | .glf _ | .gsp _ | .sdb _ => some .type33
  | .dpp _ => some .type31
  | .lag _ | .pac _ => some .type40
  | .rac _ | .rbc _ | .rcc _ => some .type421
  | .msm _ | .mcs _ | .mcb _ | .mwc _ | .mrc _ => some .type51
  | .muf _ _ _ | .mic _ _ _ | .mrf _ _ | .mri _ _ _ | .mes _ _ | .mel _ _ | .inr _ _ _ |
    .ccr _ _ => some .type52
  | .sfc _ | .rsr _ | .crf _ | .cpm _ | .dur _ _ | .mtf _ _ | .cgo _ => some .type510
  | .rcb _ | .cad _ | .scv _ _ | .icv _ => some .type138
  | .cirbuf _ | .lpb _ | .pas _ _ => some .type64
  | .dia _ _ | .dwc _ _ | .dcl _ _ | .dba _ | .dra _ => some .type23
  | .rch _ | .rcr630 _ | .tcc _ | .tcb _ | .rrc _ | .ssb _ | .rsc _ => some .type630
  | .iot11 _ => some .spacewar
  | .erg _ | .lrg _ | .lrm _ | .erm _ | .rnm _ | .rsm _ | .rck _ _ | .ctb _ _ | .rro _ _ | .rri _ _ |
    .gcf _ => some .pdp1dInOut
  | .and _ _ | .ior _ _ | .xor _ _ | .xct _ _ | .lac _ _ | .lio _ _ | .dac _ _ | .dap _ _ | .dip _ _ | .dio _ _ |
    .dzm _ _ | .add _ _ | .sub _ _ | .idx _ _ | .isp _ _ | .sad _ _ | .sas _ _ | .mus _ _ | .mul _ _ | .dis _ _ |
    .div _ _ | .jmp _ _ | .jsp _ _ | .cal _ | .jda _ | .law _ | .lawNeg _ | .spare00 _ | .spare12 _ | .spare14 _ |
    .spare36 _ | .spare74 _ | .skp _ | .sma _ | .spa _ | .spi _ | .sza _ | .szo _ | .szf _ _ | .szs _ _ | .sni |
    .szi | .sft _ | .ral _ | .rar _ | .rcl _ | .rcr _ | .ril _ | .rir _ | .sal _ | .sar _ | .scl _ | .scr _ |
    .sil _ | .sir _ | .sftNoRegister _ _ _ | .opr _ | .nop | .cla | .cli | .cma | .hlt | .lap | .lat _ | .clf _ |
    .stf _ | .lia | .lai | .swp | .cmi | .lch _ _ | .dch _ _ | .tad _ _ | .special _ | .ifi | .idc | .ida | .scm |
    .sci | .scf | .szl | .cll | .cml | .iot _ _ | .ioh => none

/-- The i-bit and the address part of the instructions whose i-bit defers (20_memory.md rule R54). -/
def deferParts : Instr → Option (Bool × Addr)
  | .and d y | .ior d y | .xor d y | .xct d y | .lac d y | .lio d y | .dac d y | .dap d y | .dip d y | .dio d y |
    .dzm d y | .add d y | .sub d y | .idx d y | .isp d y | .sad d y | .sas d y | .mus d y | .mul d y | .dis d y |
    .div d y | .jmp d y | .jsp d y => some (d, y)
  | .cal _ | .jda _ | .law _ | .lawNeg _ | .spare00 _ | .spare12 _ | .spare14 _ | .spare36 _ | .spare74 _ |
    .skp _ | .sma _ | .spa _ | .spi _ | .sza _ | .szo _ | .szf _ _ | .szs _ _ | .sni | .szi | .sft _ | .ral _ |
    .rar _ | .rcl _ | .rcr _ | .ril _ | .rir _ | .sal _ | .sar _ | .scl _ | .scr _ | .sil _ | .sir _ |
    .sftNoRegister _ _ _ | .opr _ | .nop | .cla | .cli | .cma | .hlt | .lap | .lat _ | .clf _ | .stf _ | .lia |
    .lai | .swp | .cmi | .lch _ _ | .dch _ _ | .tad _ _ | .special _ | .ifi | .idc | .ida | .scm | .sci | .scf |
    .szl | .cll | .cml | .iot _ _ | .ioh | .rpa _ | .rpb _ | .rrb _ | .ppa _ | .ppb _ | .tyo _ | .tyi _ | .esm _ |
    .lsm _ | .cbs _ | .dsc _ _ _ | .asc _ _ _ | .isb _ _ _ | .cac _ | .swc _ _ | .sia _ | .sdf _ | .ric _ |
    .shr _ | .dpy _ _ | .gpl _ | .gpr _ | .glf _ | .gsp _ | .sdb _ | .dpp _ | .lag _ | .pac _ | .rac _ | .rbc _ |
    .rcc _ | .msm _ | .mcs _ | .mcb _ | .mwc _ | .mrc _ | .muf _ _ _ | .mic _ _ _ | .mrf _ _ | .mri _ _ _ |
    .mes _ _ | .mel _ _ | .inr _ _ _ | .ccr _ _ | .sfc _ | .rsr _ | .crf _ | .cpm _ | .dur _ _ | .mtf _ _ |
    .cgo _ | .rcb _ | .cad _ | .scv _ _ | .icv _ | .cirbuf _ | .lpb _ | .pas _ _ | .dia _ _ | .dwc _ _ |
    .dcl _ _ | .dba _ | .dra _ | .rch _ | .rcr630 _ | .tcc _ | .tcb _ | .rrc _ | .ssb _ | .rsc _ | .iot11 _ |
    .erg _ | .lrg _ | .lrm _ | .erm _ | .rnm _ | .rsm _ | .rck _ _ | .ctb _ _ | .rro _ _ | .rri _ _ |
    .gcf _ => none

/-- The instructions that write a word of memory by themselves (20_memory.md rule R58). -/
def stores : Instr → Bool
  | .dac _ _ | .dap _ _ | .dip _ _ | .dio _ _ | .dzm _ _ | .idx _ _ | .isp _ _ | .cal _ | .jda _ => true
  | .and _ _ | .ior _ _ | .xor _ _ | .xct _ _ | .lac _ _ | .lio _ _ | .add _ _ | .sub _ _ | .sad _ _ | .sas _ _ |
    .mus _ _ | .mul _ _ | .dis _ _ | .div _ _ | .jmp _ _ | .jsp _ _ | .law _ | .lawNeg _ | .spare00 _ |
    .spare12 _ | .spare14 _ | .spare36 _ | .spare74 _ | .skp _ | .sma _ | .spa _ | .spi _ | .sza _ | .szo _ |
    .szf _ _ | .szs _ _ | .sni | .szi | .sft _ | .ral _ | .rar _ | .rcl _ | .rcr _ | .ril _ | .rir _ | .sal _ |
    .sar _ | .scl _ | .scr _ | .sil _ | .sir _ | .sftNoRegister _ _ _ | .opr _ | .nop | .cla | .cli | .cma |
    .hlt | .lap | .lat _ | .clf _ | .stf _ | .lia | .lai | .swp | .cmi | .lch _ _ | .dch _ _ | .tad _ _ |
    .special _ | .ifi | .idc | .ida | .scm | .sci | .scf | .szl | .cll | .cml | .iot _ _ | .ioh | .rpa _ |
    .rpb _ | .rrb _ | .ppa _ | .ppb _ | .tyo _ | .tyi _ | .esm _ | .lsm _ | .cbs _ | .dsc _ _ _ | .asc _ _ _ |
    .isb _ _ _ | .cac _ | .swc _ _ | .sia _ | .sdf _ | .ric _ | .shr _ | .dpy _ _ | .gpl _ | .gpr _ | .glf _ |
    .gsp _ | .sdb _ | .dpp _ | .lag _ | .pac _ | .rac _ | .rbc _ | .rcc _ | .msm _ | .mcs _ | .mcb _ | .mwc _ |
    .mrc _ | .muf _ _ _ | .mic _ _ _ | .mrf _ _ | .mri _ _ _ | .mes _ _ | .mel _ _ | .inr _ _ _ | .ccr _ _ |
    .sfc _ | .rsr _ | .crf _ | .cpm _ | .dur _ _ | .mtf _ _ | .cgo _ | .rcb _ | .cad _ | .scv _ _ | .icv _ |
    .cirbuf _ | .lpb _ | .pas _ _ | .dia _ _ | .dwc _ _ | .dcl _ _ | .dba _ | .dra _ | .rch _ | .rcr630 _ |
    .tcc _ | .tcb _ | .rrc _ | .ssb _ | .rsc _ | .iot11 _ | .erg _ | .lrg _ | .lrm _ | .erm _ | .rnm _ | .rsm _ |
    .rck _ _ | .ctb _ _ | .rro _ _ | .rri _ _ | .gcf _ => false

/-- The instructions that halt the computer: `hlt`, alone or in a union, and the spare codes (60_exceptions.md rule R361). -/
def halts : Instr → Bool
  | .opr bits => bit 9 bits
  | .spare00 _ | .spare12 _ | .spare14 _ | .spare36 _ | .spare74 _ | .hlt => true
  | .and _ _ | .ior _ _ | .xor _ _ | .xct _ _ | .lac _ _ | .lio _ _ | .dac _ _ | .dap _ _ | .dip _ _ | .dio _ _ |
    .dzm _ _ | .add _ _ | .sub _ _ | .idx _ _ | .isp _ _ | .sad _ _ | .sas _ _ | .mus _ _ | .mul _ _ | .dis _ _ |
    .div _ _ | .jmp _ _ | .jsp _ _ | .cal _ | .jda _ | .law _ | .lawNeg _ | .skp _ | .sma _ | .spa _ | .spi _ |
    .sza _ | .szo _ | .szf _ _ | .szs _ _ | .sni | .szi | .sft _ | .ral _ | .rar _ | .rcl _ | .rcr _ | .ril _ |
    .rir _ | .sal _ | .sar _ | .scl _ | .scr _ | .sil _ | .sir _ | .sftNoRegister _ _ _ | .nop | .cla | .cli |
    .cma | .lap | .lat _ | .clf _ | .stf _ | .lia | .lai | .swp | .cmi | .lch _ _ | .dch _ _ | .tad _ _ |
    .special _ | .ifi | .idc | .ida | .scm | .sci | .scf | .szl | .cll | .cml | .iot _ _ | .ioh | .rpa _ |
    .rpb _ | .rrb _ | .ppa _ | .ppb _ | .tyo _ | .tyi _ | .esm _ | .lsm _ | .cbs _ | .dsc _ _ _ | .asc _ _ _ |
    .isb _ _ _ | .cac _ | .swc _ _ | .sia _ | .sdf _ | .ric _ | .shr _ | .dpy _ _ | .gpl _ | .gpr _ | .glf _ |
    .gsp _ | .sdb _ | .dpp _ | .lag _ | .pac _ | .rac _ | .rbc _ | .rcc _ | .msm _ | .mcs _ | .mcb _ | .mwc _ |
    .mrc _ | .muf _ _ _ | .mic _ _ _ | .mrf _ _ | .mri _ _ _ | .mes _ _ | .mel _ _ | .inr _ _ _ | .ccr _ _ |
    .sfc _ | .rsr _ | .crf _ | .cpm _ | .dur _ _ | .mtf _ _ | .cgo _ | .rcb _ | .cad _ | .scv _ _ | .icv _ |
    .cirbuf _ | .lpb _ | .pas _ _ | .dia _ _ | .dwc _ _ | .dcl _ _ | .dba _ | .dra _ | .rch _ | .rcr630 _ |
    .tcc _ | .tcb _ | .rrc _ | .ssb _ | .rsc _ | .iot11 _ | .erg _ | .lrg _ | .lrm _ | .erm _ | .rnm _ | .rsm _ |
    .rck _ _ | .ctb _ _ | .rro _ _ | .rri _ _ | .gcf _ => false

/-- The instructions that can set the overflow flag: `add` and `sub` (10_state.md rule R24). -/
def setsOverflow : Instr → Bool
  | .add _ _ | .sub _ _ => true
  | .and _ _ | .ior _ _ | .xor _ _ | .xct _ _ | .lac _ _ | .lio _ _ | .dac _ _ | .dap _ _ | .dip _ _ | .dio _ _ |
    .dzm _ _ | .idx _ _ | .isp _ _ | .sad _ _ | .sas _ _ | .mus _ _ | .mul _ _ | .dis _ _ | .div _ _ | .jmp _ _ |
    .jsp _ _ | .cal _ | .jda _ | .law _ | .lawNeg _ | .spare00 _ | .spare12 _ | .spare14 _ | .spare36 _ |
    .spare74 _ | .skp _ | .sma _ | .spa _ | .spi _ | .sza _ | .szo _ | .szf _ _ | .szs _ _ | .sni | .szi |
    .sft _ | .ral _ | .rar _ | .rcl _ | .rcr _ | .ril _ | .rir _ | .sal _ | .sar _ | .scl _ | .scr _ | .sil _ |
    .sir _ | .sftNoRegister _ _ _ | .opr _ | .nop | .cla | .cli | .cma | .hlt | .lap | .lat _ | .clf _ | .stf _ |
    .lia | .lai | .swp | .cmi | .lch _ _ | .dch _ _ | .tad _ _ | .special _ | .ifi | .idc | .ida | .scm | .sci |
    .scf | .szl | .cll | .cml | .iot _ _ | .ioh | .rpa _ | .rpb _ | .rrb _ | .ppa _ | .ppb _ | .tyo _ | .tyi _ |
    .esm _ | .lsm _ | .cbs _ | .dsc _ _ _ | .asc _ _ _ | .isb _ _ _ | .cac _ | .swc _ _ | .sia _ | .sdf _ |
    .ric _ | .shr _ | .dpy _ _ | .gpl _ | .gpr _ | .glf _ | .gsp _ | .sdb _ | .dpp _ | .lag _ | .pac _ | .rac _ |
    .rbc _ | .rcc _ | .msm _ | .mcs _ | .mcb _ | .mwc _ | .mrc _ | .muf _ _ _ | .mic _ _ _ | .mrf _ _ |
    .mri _ _ _ | .mes _ _ | .mel _ _ | .inr _ _ _ | .ccr _ _ | .sfc _ | .rsr _ | .crf _ | .cpm _ | .dur _ _ |
    .mtf _ _ | .cgo _ | .rcb _ | .cad _ | .scv _ _ | .icv _ | .cirbuf _ | .lpb _ | .pas _ _ | .dia _ _ |
    .dwc _ _ | .dcl _ _ | .dba _ | .dra _ | .rch _ | .rcr630 _ | .tcc _ | .tcb _ | .rrc _ | .ssb _ | .rsc _ |
    .iot11 _ | .erg _ | .lrg _ | .lrm _ | .erm _ | .rnm _ | .rsm _ | .rck _ _ | .ctb _ _ | .rro _ _ | .rri _ _ |
    .gcf _ => false

/-- The instructions that clear the overflow flag: `szo`, alone or in a union (10_state.md rule R24). -/
def clearsOverflow : Instr → Bool
  | .szo _ => true
  | .skp bits => bit 8 bits
  | .and _ _ | .ior _ _ | .xor _ _ | .xct _ _ | .lac _ _ | .lio _ _ | .dac _ _ | .dap _ _ | .dip _ _ | .dio _ _ |
    .dzm _ _ | .add _ _ | .sub _ _ | .idx _ _ | .isp _ _ | .sad _ _ | .sas _ _ | .mus _ _ | .mul _ _ | .dis _ _ |
    .div _ _ | .jmp _ _ | .jsp _ _ | .cal _ | .jda _ | .law _ | .lawNeg _ | .spare00 _ | .spare12 _ | .spare14 _ |
    .spare36 _ | .spare74 _ | .sma _ | .spa _ | .spi _ | .sza _ | .szf _ _ | .szs _ _ | .sni | .szi | .sft _ |
    .ral _ | .rar _ | .rcl _ | .rcr _ | .ril _ | .rir _ | .sal _ | .sar _ | .scl _ | .scr _ | .sil _ | .sir _ |
    .sftNoRegister _ _ _ | .opr _ | .nop | .cla | .cli | .cma | .hlt | .lap | .lat _ | .clf _ | .stf _ | .lia |
    .lai | .swp | .cmi | .lch _ _ | .dch _ _ | .tad _ _ | .special _ | .ifi | .idc | .ida | .scm | .sci | .scf |
    .szl | .cll | .cml | .iot _ _ | .ioh | .rpa _ | .rpb _ | .rrb _ | .ppa _ | .ppb _ | .tyo _ | .tyi _ | .esm _ |
    .lsm _ | .cbs _ | .dsc _ _ _ | .asc _ _ _ | .isb _ _ _ | .cac _ | .swc _ _ | .sia _ | .sdf _ | .ric _ |
    .shr _ | .dpy _ _ | .gpl _ | .gpr _ | .glf _ | .gsp _ | .sdb _ | .dpp _ | .lag _ | .pac _ | .rac _ | .rbc _ |
    .rcc _ | .msm _ | .mcs _ | .mcb _ | .mwc _ | .mrc _ | .muf _ _ _ | .mic _ _ _ | .mrf _ _ | .mri _ _ _ |
    .mes _ _ | .mel _ _ | .inr _ _ _ | .ccr _ _ | .sfc _ | .rsr _ | .crf _ | .cpm _ | .dur _ _ | .mtf _ _ |
    .cgo _ | .rcb _ | .cad _ | .scv _ _ | .icv _ | .cirbuf _ | .lpb _ | .pas _ _ | .dia _ _ | .dwc _ _ |
    .dcl _ _ | .dba _ | .dra _ | .rch _ | .rcr630 _ | .tcc _ | .tcb _ | .rrc _ | .ssb _ | .rsc _ | .iot11 _ |
    .erg _ | .lrg _ | .lrm _ | .erm _ | .rnm _ | .rsm _ | .rck _ _ | .ctb _ _ | .rro _ _ | .rri _ _ |
    .gcf _ => false

/-- The operate instructions that write program flags: `stf`, `clf` and the unions (10_state.md rule R25). -/
def writesFlags : Instr → Bool
  | .opr _ | .clf _ | .stf _ => true
  | .and _ _ | .ior _ _ | .xor _ _ | .xct _ _ | .lac _ _ | .lio _ _ | .dac _ _ | .dap _ _ | .dip _ _ | .dio _ _ |
    .dzm _ _ | .add _ _ | .sub _ _ | .idx _ _ | .isp _ _ | .sad _ _ | .sas _ _ | .mus _ _ | .mul _ _ | .dis _ _ |
    .div _ _ | .jmp _ _ | .jsp _ _ | .cal _ | .jda _ | .law _ | .lawNeg _ | .spare00 _ | .spare12 _ | .spare14 _ |
    .spare36 _ | .spare74 _ | .skp _ | .sma _ | .spa _ | .spi _ | .sza _ | .szo _ | .szf _ _ | .szs _ _ | .sni |
    .szi | .sft _ | .ral _ | .rar _ | .rcl _ | .rcr _ | .ril _ | .rir _ | .sal _ | .sar _ | .scl _ | .scr _ |
    .sil _ | .sir _ | .sftNoRegister _ _ _ | .nop | .cla | .cli | .cma | .hlt | .lap | .lat _ | .lia | .lai |
    .swp | .cmi | .lch _ _ | .dch _ _ | .tad _ _ | .special _ | .ifi | .idc | .ida | .scm | .sci | .scf | .szl |
    .cll | .cml | .iot _ _ | .ioh | .rpa _ | .rpb _ | .rrb _ | .ppa _ | .ppb _ | .tyo _ | .tyi _ | .esm _ |
    .lsm _ | .cbs _ | .dsc _ _ _ | .asc _ _ _ | .isb _ _ _ | .cac _ | .swc _ _ | .sia _ | .sdf _ | .ric _ |
    .shr _ | .dpy _ _ | .gpl _ | .gpr _ | .glf _ | .gsp _ | .sdb _ | .dpp _ | .lag _ | .pac _ | .rac _ | .rbc _ |
    .rcc _ | .msm _ | .mcs _ | .mcb _ | .mwc _ | .mrc _ | .muf _ _ _ | .mic _ _ _ | .mrf _ _ | .mri _ _ _ |
    .mes _ _ | .mel _ _ | .inr _ _ _ | .ccr _ _ | .sfc _ | .rsr _ | .crf _ | .cpm _ | .dur _ _ | .mtf _ _ |
    .cgo _ | .rcb _ | .cad _ | .scv _ _ | .icv _ | .cirbuf _ | .lpb _ | .pas _ _ | .dia _ _ | .dwc _ _ |
    .dcl _ _ | .dba _ | .dra _ | .rch _ | .rcr630 _ | .tcc _ | .tcb _ | .rrc _ | .ssb _ | .rsc _ | .iot11 _ |
    .erg _ | .lrg _ | .lrm _ | .erm _ | .rnm _ | .rsm _ | .rck _ _ | .ctb _ _ | .rro _ _ | .rri _ _ |
    .gcf _ => false

/-- The in-out transfer instructions, operation code 72 (30_encoding.md rule R90). -/
def inOutInstr (i : Instr) : Bool := opField (encode i) == 29

/-- The instruction that is performed when i is executed: i itself, or the one a chain of `xct` reaches
(40_basic_instructions.md rule R140). -/
def performedBy (i : Instr) (s : State) : Instr :=
  match i with
  | .xct d y =>
    match xctTarget (memoryWords + 1) d y s with
    | .ok (x, _) => x
    | .error _ => i
  | i => i

/-- The condition of `szf` and `szs` on six cells by their number, as the spec words it: 1 to 6 test one cell for zero, 7
tests that all six are zero, 0 contributes no condition (43_skip_group.md rules R185, R187). -/
def zeroSelected (c : Six) (n : Nat) : Prop :=
  (1 ≤ n ∧ n ≤ 6 ∧ cell c n = false) ∨ (n = 7 ∧ ∀ k, 1 ≤ k → k ≤ 6 → cell c k = false)

/-- From s to t nothing changes but one word of memory, now v at address e, and MB, through which it passed (20_memory.md
rule R51, 10_state.md rule R29). -/
def storesOne (s t : State) (e : Addr) (v : Word) : Prop :=
  t = { s with mem := t.mem, mb := v } ∧ t.readWord e = v ∧ ∀ a, a ≠ e → t.readWord a = s.readWord a

/-- The word at an address after a device has written some words in order: the last one written there, or the old one. -/
def readAfter (ws : List (Addr × Word)) (s : State) (a : Addr) : Word :=
  ((ws.reverse.find? fun w => w.1 == a).map (·.2)).getD (s.readWord a)

/-- What the option answers to an in-out instruction (45_iot_standard.md rule R220). -/
def answer (o : Opt) (i : Instr) (s : State) : DevResult :=
  s.answer o (encode i)

/-- From s to t the devices' states change as an in-out instruction changes them: the claiming option's becomes d, and no
other changes (45_iot_standard.md rule R220), but that `sdb` gives each installed display a free state with its old `done`
(rule R247; notes/assumptions/36.md). -/
def devicesAfter (o : Opt) (i : Instr) (s t : State) (d : DevState) : Prop :=
  (loadsDisplay o (encode i) = false → t.devs = setDev o d s.devs) ∧ devOf o t.devs = d ∧
  ∀ p, p ≠ o → devOf p t.devs =
    if loadsDisplay o (encode i) = true ∧ p ∈ s.cfg.installed ∧ (p = .type30 ∨ p = .type31) then
      ⟨Config.displayLoaded p (encode i) s.ac s.io s.pf s.mem (devOf o s.devs) (s.shown o (encode i)),
        (devOf p s.devs).done⟩
    else devOf p s.devs

/-- The address a word hands a defer chain on to (20_memory.md rule R53). -/
def State.deferTo (s : State) (a : Addr) : Addr := addrPart (s.readWord a)

end Sys2Proof.Machine
end

