-- ==== Sys2Proof/Certificates/Slice0/Obligations.lean ====
section
/-! DEFINITION. The statements for the provers. Each says in its docstring what it states; its basis and the rules it cites
are in OBLIGATIONS.json. Where a docstring names a decision D<n>, that clause is the spec's own choice
(92_eei_decisions.md), not a sentence of its source. -/

section Statements

open Sys2Proof Sys2Proof.Machine

/-- In every configuration, for every instruction that is well-formed in it, with every operand at every value the
encoding admits, decoding the encoded word gives the instruction back. -/
def Obligations.DecodeEncodeAgree : Prop :=
  ∀ (cfg : Config) (i : Instr), wellFormed cfg i = true → decode cfg (encode i) = i

/-- In every configuration every 18-bit word decodes, to an instruction that is well-formed in that configuration and
whose encoding is the word itself: the decoder is total and drops no bit. -/
def Obligations.EncodeDecodeAgree : Prop :=
  ∀ (cfg : Config) (w : Word), wellFormed cfg (decode cfg w) = true ∧ encode (decode cfg w) = w

/-- In the base configuration 402000 is add 2000, 412000 add i 2000, 161234 cal, 172000 jda 2000, 700005 law 5, 710005
law -5, 661007 ral with three count bits, 675777 sar with nine, 640100 sza, 650100 sza i, 760200 cla, 730000 ioh,
012345 the spare code 00; with the Type 10 option 542000 is mul 2000; on a PDP-1D 760060 is swp; with the reader
720001 is rpa and 730001 its waiting form. -/
def Obligations.DecodingIsRight : Prop :=
  decode launchConfig 0o402000 = .add false 0o2000 ∧ decode launchConfig 0o412000 = .add true 0o2000 ∧
  decode launchConfig 0o161234 = .cal 0o1234 ∧ decode launchConfig 0o172000 = .jda 0o2000 ∧
  decode launchConfig 0o700005 = .law 5 ∧ decode launchConfig 0o710005 = .lawNeg 5 ∧
  decode launchConfig 0o661007 = .ral 0o007 ∧ decode launchConfig 0o675777 = .sar 0o777 ∧
  decode launchConfig 0o640100 = .sza false ∧ decode launchConfig 0o650100 = .sza true ∧
  decode launchConfig 0o760200 = .cla ∧ decode launchConfig 0o730000 = .ioh ∧
  decode launchConfig 0o012345 = .spare00 0o12345 ∧
  decode { launchConfig with mulDiv := true } 0o542000 = .mul false 0o2000 ∧
  decode { launchConfig with pdp1d := true } 0o760060 = .swp ∧
  decode { launchConfig with devices := [.reader] } 0o720001 = .rpa false ∧
  decode { launchConfig with devices := [.reader] } 0o730001 = .rpa true

/-- While RUN is 1 and no break is due, a step at a state whose word at PC decodes to i is exec of i at that state
with MB holding the word and PC advanced by one modulo 4096 (the advance before the execution is the decision D7 of
the spec). A break is never due unless the configuration supplies the mechanism and has Type 120 installed (decision
D27). -/
def Obligations.StepRunsDecoded : Prop :=
  ∀ (s : State) (i : Instr),
    (s.run = true → s.breakDue = none → decode s.cfg (s.readWord s.pc) = i →
      step s = exec i { s with mb := s.readWord s.pc, pc := s.pc + 1 }) ∧
    (s.cfg.breaks = false → s.breakDue = none) ∧ (Opt.type120 ∉ s.cfg.installed → s.breakDue = none)

/-- hlt sets RUN to 0 and changes nothing else; whenever an instruction answers a next state with RUN 1, RUN was 1
before it; with RUN = 0 a step is the fault halted; at launch RUN is 1. -/
def Obligations.RunStateRule : Prop :=
  (∀ s : State, exec .hlt s = .next { s with run := false }) ∧
    (∀ (i : Instr) (s t : State), exec i s = .next t → t.run = true → s.run = true) ∧
    (∀ s : State, s.run = false → step s = .fault .halted) ∧ State.reset.run = true

/-- After a write of v at a, the word at a is v and every other word is as before, and nothing else but MB (which
holds v) changes; a read changes nothing but MB, which holds the word read. That MB holds the word written is
presumed, the spec's general knowledge (notes/assumptions/17.md). -/
def Obligations.MemoryReadsLatestWrite : Prop :=
  ∀ (s : State) (a : Addr) (v : Word),
    (s.writeWord a v).readWord a = v ∧ (∀ b : Addr, b ≠ a → (s.writeWord a v).readWord b = s.readWord b) ∧
    s.writeWord a v = { s with mem := (s.writeWord a v).mem, mb := v } ∧
    s.afterRead a = { s with mb := s.readWord a }

/-- For every state whose memory is in canonical form (addresses strictly rising and below 4096, no cell that reads as
an unlisted one), if a step answers a next state then the memory of that state is in canonical form. It covers every
instruction, every block-transfer device and every break. The form is the model's own representation
(notes/assumptions/1.md). -/
def Obligations.StepKeepsMemoryCanonical : Prop :=
  ∀ s t : State, s.inv → step s = .next t → t.inv

/-- The memory of the launch state is in canonical form; it lists nothing (the model's choice of launch image,
notes/assumptions/4.md). -/
def Obligations.LaunchMemoryCanonical : Prop :=
  State.reset.inv

/-- If a step answers a next state, then the sense switches, the test word, the parameters of the installation and the
PDP-1D state that the spec only names are as before. That the console inputs are constant during a run is the decision
D34 of the spec; that the parameters are state no step writes is the model's form (notes/assumptions/5.md). -/
def Obligations.ConsoleInputsConstant : Prop :=
  ∀ s t : State, step s = .next t → t.ss = s.ss ∧ t.tw = s.tw ∧ t.cfg = s.cfg ∧ t.named1d = s.named1d

/-- With the i-bit clear the effective address is Y and nothing is read. With it set, let d be the word at Y: if bit 5
of d is set the address is the deferred address of bits 6 to 17 of d, else it is bits 6 to 17 of d, and MB holds d.
This is the recursion of the spec with no limit on the length; that bit 5 of the fetched word continues the chain is
decision D5. -/
def Obligations.EffectiveAddressRule : Prop :=
  ∀ (s : State) (y : Addr),
    s.ea false y = some (y, s) ∧
    s.ea true y = if iBit (s.readWord y) then s.ea true (addrPart (s.readWord y))
      else some (addrPart (s.readWord y), { s with mb := s.readWord y })

/-- There is no effective address exactly when every word of the chain from Y (Y, then the address part of the word at
Y, and so on for ever) has bit 5 set: the chain is never cut off, however long it is (decision D5). -/
def Obligations.CircularDeferNeverEnds : Prop :=
  ∀ (s : State) (y : Addr),
    s.ea true y = none ↔ ∀ n : Nat, iBit (s.readWord (s.deferTo^[n] y)) = true

/-- For each of the 23 instructions whose i-bit defers, if there is no effective address the instruction ends in the
fault deferLoop: it never completes, and there is no trap. -/
def Obligations.DeferLoopSticks : Prop :=
  ∀ (i : Instr) (s : State) (d : Bool) (y : Addr),
    deferParts i = some (d, y) → s.ea d y = none → exec i s = .fault .deferLoop

/-- When the effective address is e, xct answers exactly what exec of the instruction that the word at e decodes to
answers, at the same state with MB holding the word and PC still the address after the xct. The word may be any
instruction, another xct included (decision D25). -/
def Obligations.XctExecutesTheWord : Prop :=
  ∀ (s s1 : State) (i : Bool) (y e : Addr), s.ea i y = some (e, s1) →
    exec (.xct i y) s = exec (decode s.cfg (s.readWord e)) { s with mb := s.readWord e }

/-- When the word at the effective address is law N, xct loads N; when it is sza, the word after the xct is skipped or
not; when it is jmp Z, control goes to Z; when it is jsp Z, AC takes the word saved for the address after the xct and
control goes to Z; when it is hlt, the computer halts. In each case xct answers that next state (decision D25). -/
def Obligations.XctActsInPlace : Prop :=
  ∀ (s s1 : State) (i : Bool) (y e : Addr), s.ea i y = some (e, s1) →
    (∀ n, decode s.cfg (s.readWord e) = .law n →
      exec (.xct i y) s = .next { s with ac := n.setWidth 18, mb := s.readWord e }) ∧
    (∀ inv, decode s.cfg (s.readWord e) = .sza inv →
      exec (.xct i y) s = .next { s with pc := if (s.ac == 0) != inv then s.pc + 1 else s.pc, mb := s.readWord e }) ∧
    (∀ z, decode s.cfg (s.readWord e) = .jmp false z →
      exec (.xct i y) s = .next { s with pc := z, mb := s.readWord e }) ∧
    (∀ z, decode s.cfg (s.readWord e) = .jsp false z →
      exec (.xct i y) s = .next { s with ac := s.pcword, pc := z, mb := s.readWord e }) ∧
    (decode s.cfg (s.readWord e) = .hlt → exec (.xct i y) s = .next { s with run := false, mb := s.readWord e })

/-- Let P be a set of addresses such that the word at each of them is an xct whose effective address is again in P.
Then an xct whose effective address is in P ends in the fault xctLoop: it never completes (decision D25). -/
def Obligations.XctLoopSticks : Prop :=
  ∀ (s s1 : State) (P : Addr → Prop) (i : Bool) (y e : Addr),
    (∀ a, P a → ∃ d z b u, decode s.cfg (s.readWord a) = .xct d z ∧ s.ea d z = some (b, u) ∧ P b) →
    s.ea i y = some (e, s1) → P e → exec (.xct i y) s = .fault .xctLoop

/-- When the effective address is e, and, ior and xor answer the next state in which AC is the AND, OR and exclusive
OR of AC and the word at e, and MB holds that word; no other register, no flag and no word of memory changes. Their
words are 020000, 040000, 060000 plus the i-bit and the address. -/
def Obligations.LogicInstructions : Prop :=
  ∀ (s s1 : State) (i : Bool) (y e : Addr), s.ea i y = some (e, s1) →
    exec (.and i y) s = .next { s with ac := s.ac &&& s.readWord e, mb := s.readWord e } ∧
    exec (.ior i y) s = .next { s with ac := s.ac ||| s.readWord e, mb := s.readWord e } ∧
    exec (.xor i y) s = .next { s with ac := s.ac ^^^ s.readWord e, mb := s.readWord e } ∧
    (encode (.and i y)).toNat = 0o020000 + 0o010000 * i.toNat + y.toNat ∧
    (encode (.ior i y)).toNat = 0o040000 + 0o010000 * i.toNat + y.toNat ∧
    (encode (.xor i y)).toNat = 0o060000 + 0o010000 * i.toNat + y.toNat

/-- When the effective address is e, lac answers the next state in which AC is the word at e, and lio the one in which
IO is; MB holds the word; no other register, no flag and no word of memory changes. Their words are 200000 and 220000
plus the i-bit and the address. -/
def Obligations.LoadInstructions : Prop :=
  ∀ (s s1 : State) (i : Bool) (y e : Addr), s.ea i y = some (e, s1) →
    exec (.lac i y) s = .next { s with ac := s.readWord e, mb := s.readWord e } ∧
    exec (.lio i y) s = .next { s with io := s.readWord e, mb := s.readWord e } ∧
    (encode (.lac i y)).toNat = 0o200000 + 0o010000 * i.toNat + y.toNat ∧
    (encode (.lio i y)).toNat = 0o220000 + 0o010000 * i.toNat + y.toNat

/-- When the effective address is e, dac, dio and dzm answer a next state in which the word at e is AC, IO and +0,
every other word of memory reads as before, MB holds the word stored, and no register and no flag changes. Their words
are 240000, 320000, 340000 plus the i-bit and the address. That MB holds the word stored is presumed, the spec's
general knowledge (notes/assumptions/17.md). -/
def Obligations.DepositInstructions : Prop :=
  ∀ (s s1 : State) (i : Bool) (y e : Addr), s.ea i y = some (e, s1) →
    (∃ t, exec (.dac i y) s = .next t ∧ storesOne s t e s.ac) ∧
    (∃ t, exec (.dio i y) s = .next t ∧ storesOne s t e s.io) ∧
    (∃ t, exec (.dzm i y) s = .next t ∧ storesOne s t e 0) ∧
    (encode (.dac i y)).toNat = 0o240000 + 0o010000 * i.toNat + y.toNat ∧
    (encode (.dio i y)).toNat = 0o320000 + 0o010000 * i.toNat + y.toNat ∧
    (encode (.dzm i y)).toNat = 0o340000 + 0o010000 * i.toNat + y.toNat

/-- When the effective address is e, dap answers a next state in which bits 6 to 17 of the word at e are those of AC
and bits 0 to 5 are as before, and dip one in which bits 0 to 5 are those of AC and bits 6 to 17 are as before; every
other word reads as before, MB holds the word stored, and no register and no flag changes. That the other part is kept
is decision D12. That MB holds the word stored is presumed, the spec's general knowledge (notes/assumptions/17.md). -/
def Obligations.PartDeposits : Prop :=
  ∀ (s s1 : State) (i : Bool) (y e : Addr), s.ea i y = some (e, s1) →
    (∃ t v, exec (.dap i y) s = .next t ∧ storesOne s t e v ∧
      ∀ n, n < 18 → bit n v = if n < 6 then bit n (s.readWord e) else bit n s.ac) ∧
    (∃ t v, exec (.dip i y) s = .next t ∧ storesOne s t e v ∧
      ∀ n, n < 18 → bit n v = if n < 6 then bit n s.ac else bit n (s.readWord e))

/-- When the effective address is e, idx and isp answer a next state in which the word at e and AC are r: the integer
of r is the old word's plus one, except that 377777 gives -131071, and r is never minus zero; every other word reads
as before; MB holds r; OV and every other register is as before; isp advances PC once more exactly when the sign of r
is 0. The wrap, the zero rule and the untouched flag are decision D10. That MB holds the word stored is presumed, the
spec's general knowledge (notes/assumptions/17.md). -/
def Obligations.IndexInstructions : Prop :=
  ∀ (s s1 : State) (i : Bool) (y e : Addr), s.ea i y = some (e, s1) →
    ∃ t u r, exec (.idx i y) s = .next t ∧ exec (.isp i y) s = .next u ∧
      val r = (if s.readWord e = 0o377777 then -131071 else val (s.readWord e) + 1) ∧ r ≠ 0o777777 ∧
      storesOne { s with ac := r } t e r ∧
      storesOne { s with ac := r, pc := if sign r then s.pc else s.pc + 1 } u e r

/-- When the effective address is e, add answers a next state that differs only in AC, OV and MB (the word at e). Let
T be the sum of the integers of AC and of that word. AC is never minus zero. If T lies in -131071 .. 131071 its
integer is T and OV is as before; if T is larger it is T - 262143 and OV is 1; if T is smaller it is T + 262143 and OV
is 1. The zero rule, the wrap and the sticky flag are decision D8. -/
def Obligations.AddInstruction : Prop :=
  ∀ (s s1 : State) (i : Bool) (y e : Addr), s.ea i y = some (e, s1) →
    ∃ t, exec (.add i y) s = .next t ∧ t = { s with ac := t.ac, ov := t.ov, mb := s.readWord e } ∧ t.ac ≠ 0o777777 ∧
      (let T := val s.ac + val (s.readWord e)
       (-131071 ≤ T ∧ T ≤ 131071 → val t.ac = T ∧ t.ov = s.ov) ∧
       (131071 < T → val t.ac = T - 262143 ∧ t.ov = true) ∧
       (T < -131071 → val t.ac = T + 262143 ∧ t.ov = true))

/-- When the effective address is e, sub answers a next state that differs only in AC, OV and MB (the word at e). Let
T be the integer of AC less that of the word. AC is minus zero exactly when AC was minus zero and the word +0. If T
lies in -131071 .. 131071 the integer of AC is T and OV is as before; if T is larger it is T - 262143 and OV is 1; if
smaller, T + 262143 and OV is 1. These corner cases are decision D9. -/
def Obligations.SubInstruction : Prop :=
  ∀ (s s1 : State) (i : Bool) (y e : Addr), s.ea i y = some (e, s1) →
    ∃ t, exec (.sub i y) s = .next t ∧ t = { s with ac := t.ac, ov := t.ov, mb := s.readWord e } ∧
      (t.ac = 0o777777 ↔ s.ac = 0o777777 ∧ s.readWord e = 0) ∧
      (let T := val s.ac - val (s.readWord e)
       (-131071 ≤ T ∧ T ≤ 131071 → val t.ac = T ∧ t.ov = s.ov) ∧
       (131071 < T → val t.ac = T - 262143 ∧ t.ov = true) ∧
       (T < -131071 → val t.ac = T + 262143 ∧ t.ov = true))

/-- When the effective address is e, sad answers the next state in which PC is advanced once more exactly when AC
differs from the word at e as a pattern, and sas the one in which it is exactly when they are equal; MB holds the
word; nothing else changes. Equality of patterns, so that +0 and -0 differ, is decision D11. -/
def Obligations.CompareInstructions : Prop :=
  ∀ (s s1 : State) (i : Bool) (y e : Addr), s.ea i y = some (e, s1) →
    exec (.sad i y) s = .next { s with pc := if s.ac = s.readWord e then s.pc else s.pc + 1, mb := s.readWord e } ∧
    exec (.sas i y) s = .next { s with pc := if s.ac = s.readWord e then s.pc + 1 else s.pc, mb := s.readWord e }

/-- When the effective address is e, jmp answers the next state in which PC is e; nothing else changes but MB by the
defer reads. Its word is 600000 plus the i-bit and the address. -/
def Obligations.JmpSetsProgramCounter : Prop :=
  ∀ (s s1 : State) (i : Bool) (y e : Addr), s.ea i y = some (e, s1) →
    exec (.jmp i y) s = .next { s with pc := e, mb := s1.mb } ∧
    (encode (.jmp i y)).toNat = 0o600000 + 0o010000 * i.toNat + y.toNat

/-- The saved word has OV in bit 0, zeros in bits 1 to 5 and PC in bits 6 to 17. jsp answers the next state with that
word in AC and PC the effective address. jda answers one in which the word at Y is the old AC, every other word as
before, MB holds the word stored, AC is the saved word, PC is Y + 1 modulo 4096, and nothing else changes. cal does
what jda 100 does, whatever its address part, and completes. The saved word's layout and the ignored address part are
decisions D6, D7 and D13. That MB holds the word stored is presumed, the spec's general knowledge
(notes/assumptions/17.md). -/
def Obligations.SavingJumps : Prop :=
  ∀ s : State,
    (∀ n, n < 18 → bit n s.pcword = if n = 0 then s.ov else if n < 6 then false else bit n s.pc) ∧
    (∀ (i : Bool) (y e : Addr) (s1 : State), s.ea i y = some (e, s1) →
      exec (.jsp i y) s = .next { s with ac := s.pcword, pc := e, mb := s1.mb }) ∧
    (∀ y, ∃ t, exec (.jda y) s = .next t ∧ storesOne { s with ac := s.pcword, pc := y + 1 } t y s.ac) ∧
    (∀ y, exec (.cal y) s = exec (.jda 0o100) s ∧
      ∃ t, exec (.cal y) s = .next t ∧ storesOne { s with ac := s.pcword, pc := 0o101 } t 0o100 s.ac)

/-- law N answers the next state in which AC is the number N, and law -N the one in which AC is 777777 - N, so that
law -0 loads minus zero (decision D14); nothing else changes. Their words are 700000 and 710000 plus N. -/
def Obligations.LawInstructions : Prop :=
  ∀ (s : State) (n : Addr),
    (∃ v, exec (.law n) s = .next { s with ac := v } ∧ v.toNat = n.toNat) ∧
    (∃ v, exec (.lawNeg n) s = .next { s with ac := v } ∧ v.toNat = 0o777777 - n.toNat ∧ val v = -(n.toNat : Int)) ∧
    (encode (.law n)).toNat = 0o700000 + n.toNat ∧ (encode (.lawNeg n)).toNat = 0o710000 + n.toNat

/-- When the effective address is e, mus answers the next state that differs only in AC, IO and MB (the word at e):
with a the AC, or where IO bit 17 is 1 the sum of AC and the word with minus zero replaced, AC is the integer half of
a and IO is IO's integer half with the low bit of a at the left end. OV is as before. The step is decision D15. -/
def Obligations.MultiplyStep : Prop :=
  ∀ (s s1 : State) (i : Bool) (y e : Addr), s.ea i y = some (e, s1) →
    ∃ a : Word, (bit 17 s.io = false → a = s.ac) ∧
      (bit 17 s.io = true → a = if add1c s.ac (s.readWord e) = 0o777777 then 0 else add1c s.ac (s.readWord e)) ∧
      exec (.mus i y) s = .next { s with
        ac := BitVec.ofNat 18 (a.toNat / 2), io := BitVec.ofNat 18 (a.toNat % 2 * 2 ^ 17 + s.io.toNat / 2)
        mb := s.readWord e }

/-- With AC clear, and the multiplier in IO and the word at Y both of sign 0, seventeen times mus leaves in AC bits 1
to 17 and IO bits 0 to 16 the product of the two, with AC bit 0 zero (the use that decision D15 gives the step). -/
def Obligations.SeventeenMultiplySteps : Prop :=
  ∀ (s : State) (y : Addr), s.ac = 0 → sign s.io = false → sign (s.readWord y) = false →
    let once : State → State := fun u => match exec (.mus false y) u with
      | .next v => v
      | .fault _ => u
      | .refused _ => u
    let t := once^[17] s
    t.ac.toNat * 2 ^ 17 + t.io.toNat / 2 = s.io.toNat * (s.readWord y).toNat ∧ sign t.ac = false

/-- When the effective address is e, dis answers the next state that differs only in AC, IO and MB (the word b at e).
With q = 1 where AC bit 0 was 0, else 0: IO is doubled modulo 2^18 plus q; a is AC doubled modulo 2^18 plus the old IO
bit 0; the sum is a + 777777 - b where q = 1, a + b + 1 where q = 0; a carry out of bit 0 is added at the right end;
AC is the sum, minus zero replaced by +0. OV is as before. The step is decision D16. -/
def Obligations.DivideStep : Prop :=
  ∀ (s s1 : State) (i : Bool) (y e : Addr), s.ea i y = some (e, s1) →
    let b := (s.readWord e).toNat
    let q := if s.ac.toNat < 2 ^ 17 then 1 else 0
    let a := 2 * s.ac.toNat % 2 ^ 18 + s.io.toNat / 2 ^ 17
    let sum := if q = 1 then a + (0o777777 - b) else a + b + 1
    let round := if 2 ^ 18 ≤ sum then (sum + 1) % 2 ^ 18 else sum
    exec (.dis i y) s = .next { s with
      ac := BitVec.ofNat 18 (if round = 0o777777 then 0 else round)
      io := BitVec.ofNat 18 (2 * s.io.toNat % 2 ^ 18 + q), mb := s.readWord e }

/-- When the effective address is e, mul answers a next state that differs only in AC, IO and MB (the word at e). Let
P be the product of the magnitudes of AC and of the word. If the signs differ and P is not zero, the complement of the
combined register AC, IO is 2 P as a number, else the combined register itself is. OV is as before. Layout, sign and
zero are decision D17. -/
def Obligations.MultiplyProduct : Prop :=
  ∀ (s s1 : State) (i : Bool) (y e : Addr), s.ea i y = some (e, s1) →
    ∃ t, exec (.mul i y) s = .next t ∧ t = { s with ac := t.ac, io := t.io, mb := s.readWord e } ∧
      (let P := (val s.ac).natAbs * (val (s.readWord e)).natAbs
       if sign s.ac ≠ sign (s.readWord e) ∧ P ≠ 0 then (~~~t.combined).toNat = 2 * P else t.combined.toNat = 2 * P)

/-- When the effective address is e, let v be the magnitude of the word at e and h that of AC. If h is not below v,
div answers the next state that differs only in MB: no skip. Else it answers one that differs only in AC, IO, PC
(advanced once more) and MB: magnitude of AC times v plus magnitude of IO is the dividend's magnitude h 2^17 + IO bits
0 to 16 (IO complemented where AC was negative), the remainder is below v, AC is negative exactly when the signs
differ and the quotient is not zero, IO exactly when AC was negative and the remainder is not zero. OV is as before.
These are decision D18. -/
def Obligations.DivideQuotient : Prop :=
  ∀ (s s1 : State) (i : Bool) (y e : Addr), s.ea i y = some (e, s1) →
    let v := (val (s.readWord e)).natAbs
    let h := (val s.ac).natAbs
    let low := (if sign s.ac then ~~~s.io else s.io).toNat / 2
    (v ≤ h → exec (.div i y) s = .next { s with mb := s.readWord e }) ∧
    (h < v → ∃ t, exec (.div i y) s = .next t ∧
      t = { s with ac := t.ac, io := t.io, pc := s.pc + 1, mb := s.readWord e } ∧
      (val t.ac).natAbs * v + (val t.io).natAbs = h * 2 ^ 17 + low ∧ (val t.io).natAbs < v ∧
      (sign t.ac = true ↔ sign s.ac ≠ sign (s.readWord e) ∧ val t.ac ≠ 0) ∧
      (sign t.io = true ↔ sign s.ac = true ∧ val t.io ≠ 0))

/-- Each spare code, with any i-bit and address part, answers the next state that differs only in RUN, which is 0. On
a PDP-1 that is running and takes no break, a step at a word whose operation code is 00, 12, 14, 36 or 74 (with either
i-bit, decision D19) answers the state in which MB holds the word, PC is advanced and RUN is 0. -/
def Obligations.SpareCodesHalt : Prop :=
  (∀ (rest : BitVec 13) (s : State),
      exec (.spare00 rest) s = .next { s with run := false } ∧ exec (.spare12 rest) s = .next { s with run := false } ∧
      exec (.spare14 rest) s = .next { s with run := false } ∧ exec (.spare36 rest) s = .next { s with run := false } ∧
      exec (.spare74 rest) s = .next { s with run := false }) ∧
    (∀ s : State, s.run = true → s.breakDue = none → s.cfg.pdp1d = false →
      (opField (s.readWord s.pc)).toNat ∈ [0, 5, 6, 15, 30] →
      step s = .next { s with mb := s.readWord s.pc, pc := s.pc + 1, run := false })

/-- cla answers the next state in which AC is +0, cli the one in which IO is +0, cma the one in which AC is
complemented, hlt the one in which RUN is 0, nop the same state; nothing else changes. Their words are 760200, 764000,
761000, 760400, 760000. -/
def Obligations.OperateSingles : Prop :=
  (∀ s : State,
      exec .cla s = .next { s with ac := 0 } ∧ exec .cli s = .next { s with io := 0 } ∧
      exec .cma s = .next { s with ac := ~~~s.ac } ∧ exec .hlt s = .next { s with run := false } ∧
      exec .nop s = .next s) ∧
    encode .cla = 0o760200 ∧ encode .cli = 0o764000 ∧ encode .cma = 0o761000 ∧ encode .hlt = 0o760400 ∧
    encode .nop = 0o760000

/-- For every flag number f, clf f and stf f answer a next state that differs only in the program flags: flag k, for k
from 1 to 6, is cleared or set where f is k or 7, and else as before. The numbers 0 and 7 are decision D20. -/
def Obligations.FlagInstructions : Prop :=
  ∀ (s : State) (f : BitVec 3),
    ∃ t u, exec (.clf f) s = .next t ∧ exec (.stf f) s = .next u ∧ t = { s with pf := t.pf } ∧ u = { s with pf := u.pf } ∧
      ∀ k, 1 ≤ k → k ≤ 6 →
        cell t.pf k = (if f.toNat = k ∨ f.toNat = 7 then false else cell s.pf k) ∧
        cell u.pf k = (if f.toNat = k ∨ f.toNat = 7 then true else cell s.pf k)

/-- lap answers the next state in which AC is the inclusive OR of the word saved for OV and PC and of AC, or of +0
where the parameter P_LAP_CLEARS holds; it holds for either value of the open parameter. lat with the cla bit (762200)
answers the one in which AC is the test word, and the transfer bit alone (762000) the one in which AC is the inclusive
OR of AC and the test word (decision D21). Nothing else changes. -/
def Obligations.TransferInstructions : Prop :=
  (∀ s : State,
      exec .lap s = .next { s with ac := (if s.cfg.lapClears then 0 else s.ac) ||| s.pcword } ∧
      exec (.lat true) s = .next { s with ac := s.tw } ∧ exec (.lat false) s = .next { s with ac := s.ac ||| s.tw }) ∧
    encode .lap = 0o760100 ∧ encode (.lat true) = 0o762200 ∧ encode (.lat false) = 0o762000

/-- For every operate word: IO is cleared; AC is cleared (by bit 10, or bit 11 with P_LAP_CLEARS); TW and the saved
program counter word are ORed into AC; AC is complemented; on a PDP-1D IO is complemented and then exchanged with AC
as bits 13 and 12 say; the selected flags are written with bit 14; and bit 9 halts; each where its bit is set, and
nothing else changes. The order is decision D20. -/
def Obligations.OperateUnion : Prop :=
  ∀ (s : State) (bits : BitVec 13),
    let ac0 := if bit 10 bits || (bit 11 bits && s.cfg.lapClears) then 0 else s.ac
    let ac1 := ac0 ||| (if bit 7 bits then s.tw else 0) ||| (if bit 11 bits then s.pcword else 0)
    let ac2 := if bit 8 bits then ~~~ac1 else ac1
    let io0 := if bit 6 bits then 0 else s.io
    let io1 := if s.cfg.pdp1d && bit 5 bits then ~~~io0 else io0
    exec (.opr bits) s = .next { s with
      ac := if s.cfg.pdp1d && bit 12 bits then io1 else ac2, io := if s.cfg.pdp1d && bit 13 bits then ac2 else io1
      pf := setSelected s.pf (bits.extractLsb' 0 3) (bit 14 bits), run := s.run && !bit 9 bits }

/-- For every instruction well-formed in the configuration: if its word is of the operate, skip, shift or in-out
group, then the instruction answers exactly what the group instruction (opr, skp, sft, iot) answers for the bits of
that word: a word of these groups is the union of the rows whose bits it contains. -/
def Obligations.GroupRowsAgreeWithGroup : Prop :=
  ∀ (i : Instr) (s : State), wellFormed s.cfg i = true →
    (opField (encode i) = 31 → exec i s = exec (.opr (operandBits (encode i))) s) ∧
    (opField (encode i) = 26 → exec i s = exec (.skp (operandBits (encode i))) s) ∧
    (opField (encode i) = 27 → exec i s = exec (.sft (operandBits (encode i))) s) ∧
    (opField (encode i) = 29 → exec i s = exec (.iot (iBit (encode i)) (addrPart (encode i))) s)

/-- lia answers the next state in which IO is AC, lai the one in which AC is IO, swp the one in which each is the
other's old value, cmi the one in which IO is complemented; nothing else changes. Their words are 760020, 760040,
760060, 770000. -/
def Obligations.ExchangeInstructions : Prop :=
  (∀ s : State,
      exec .lia s = .next { s with io := s.ac } ∧ exec .lai s = .next { s with ac := s.io } ∧
      exec .swp s = .next { s with ac := s.io, io := s.ac } ∧ exec .cmi s = .next { s with io := ~~~s.io }) ∧
    encode .lia = 0o760020 ∧ encode .lai = 0o760040 ∧ encode .swp = 0o760060 ∧ encode .cmi = 0o770000

/-- sma, spa, spi, sza, szf and szs answer the next state in which PC is advanced once more exactly when the condition
(AC sign 1, AC sign 0, IO sign 0, AC is +0, the selected flags or switches are zero) holds, or with the i-bit exactly
when it does not; szo tests OV for 0 so and clears it in every case; sni and szi of the PDP-1D skip when IO is not +0
and when it is. Nothing else changes. The corner cases are decision D22. -/
def Obligations.SkipInstructions : Prop :=
  ∀ s : State,
    (∀ inv,
      exec (.sma inv) s = .next { s with pc := if sign s.ac != inv then s.pc + 1 else s.pc } ∧
      exec (.spa inv) s = .next { s with pc := if !sign s.ac != inv then s.pc + 1 else s.pc } ∧
      exec (.spi inv) s = .next { s with pc := if !sign s.io != inv then s.pc + 1 else s.pc } ∧
      exec (.sza inv) s = .next { s with pc := if (s.ac == 0) != inv then s.pc + 1 else s.pc } ∧
      exec (.szo inv) s = .next { s with pc := if !s.ov != inv then s.pc + 1 else s.pc, ov := false }) ∧
    (∀ inv f, ∃ c : Bool, (c = true ↔ zeroSelected s.pf f.toNat) ∧
      exec (.szf inv f) s = .next { s with pc := if c != inv then s.pc + 1 else s.pc }) ∧
    (∀ inv n, ∃ c : Bool, (c = true ↔ zeroSelected s.ss n.toNat) ∧
      exec (.szs inv n) s = .next { s with pc := if c != inv then s.pc + 1 else s.pc }) ∧
    exec .sni s = .next { s with pc := if s.io = 0 then s.pc else s.pc + 1 } ∧
    exec .szi s = .next { s with pc := if s.io = 0 then s.pc + 1 else s.pc }

/-- szo answers the next state in which PC is advanced once more exactly when OV was 0, and OV is 0; nothing else
changes; its word is 641000. Every skip word with bit 8 set, alone or in a union, inverted or not, clears OV in the
state it answers. -/
def Obligations.SzoTestsAndClearsOverflow : Prop :=
  (∀ s : State, exec (.szo false) s = .next { s with pc := if s.ov then s.pc else s.pc + 1, ov := false }) ∧
    encode (.szo false) = 0o641000 ∧
    (∀ s : State, ∃ t, exec (.szo true) s = .next t ∧ t.ov = false) ∧
    (∀ (s : State) (bits : BitVec 13), bit 8 bits = true → ∃ t, exec (.skp bits) s = .next t ∧ t.ov = false) ∧
    (∀ (i : Instr) (s t : State), exec i s = .next t → s.ov = true → t.ov = false → clearsOverflow (performedBy i s) = true)

/-- For every skip word there is a truth value c, true exactly when one of the selected conditions holds (bits 11, 10,
9, 8, 7 for AC +0, AC plus, AC minus, OV zero, IO plus, on a PDP-1D bit 6 for IO not +0, and the switch and flag
numbers), such that the word answers the next state in which PC is advanced once more exactly when c differs from bit
5 and OV is cleared where bit 8 is set; nothing else changes. The inclusive OR is decision D22. -/
def Obligations.SkipUnion : Prop :=
  ∀ (s : State) (bits : BitVec 13), ∃ c : Bool,
    (c = true ↔
      (bit 11 bits = true ∧ s.ac = 0) ∨ (bit 10 bits = true ∧ sign s.ac = false) ∨
      (bit 9 bits = true ∧ sign s.ac = true) ∨ (bit 8 bits = true ∧ s.ov = false) ∨
      (bit 7 bits = true ∧ sign s.io = false) ∨ (s.cfg.pdp1d = true ∧ bit 6 bits = true ∧ s.io ≠ 0) ∨
      zeroSelected s.ss (bits.extractLsb' 3 3).toNat ∨ zeroSelected s.pf (bits.extractLsb' 0 3).toNat) ∧
    exec (.skp bits) s = .next { s with
      pc := if c != bit 5 bits then s.pc + 1 else s.pc, ov := s.ov && !bit 8 bits }

/-- With n the number of the nine bits of the count mask that are 1, ral and rar answer the next state in which AC is
rotated n places left and right, ril and rir the one in which IO is, and rcl and rcr one in which the 36-bit register
with AC as its high half (decision D23) is; nothing else changes, OV included. -/
def Obligations.RotateInstructions : Prop :=
  ∀ (s : State) (mask : BitVec 9),
    let n := (List.range 9).countP fun k => mask.getLsbD k
    exec (.ral mask) s = .next { s with ac := s.ac.rotateLeft n } ∧
    exec (.rar mask) s = .next { s with ac := s.ac.rotateRight n } ∧
    exec (.ril mask) s = .next { s with io := s.io.rotateLeft n } ∧
    exec (.rir mask) s = .next { s with io := s.io.rotateRight n } ∧
    (∃ t, exec (.rcl mask) s = .next t ∧ t = { s with ac := t.ac, io := t.io } ∧
      t.combined = s.combined.rotateLeft n) ∧
    (∃ t, exec (.rcr mask) s = .next t ∧ t = { s with ac := t.ac, io := t.io } ∧
      t.combined = s.combined.rotateRight n)

/-- With n the number of the nine bits of the count mask that are 1 and R the register (AC, IO, or the 36-bit
register): after a left shift bit 0 is the sign, bit k is the old bit k + n where there is one, else the sign; after a
right shift bits 0 to n are the sign and bit k above n is the old bit k - n. sal, sil, scl, sar, sir, scr answer such
a next state; nothing else changes, OV included. The arithmetic shift is decision D23. -/
def Obligations.ShiftInstructions : Prop :=
  ∀ (s : State) (mask : BitVec 9),
    let n := (List.range 9).countP fun k => mask.getLsbD k
    (∃ t, exec (.sal mask) s = .next t ∧ t = { s with ac := t.ac } ∧ ∀ k, k < 18 →
      t.ac.getMsbD k = if k = 0 then sign s.ac else if k + n < 18 then s.ac.getMsbD (k + n) else sign s.ac) ∧
    (∃ t, exec (.sar mask) s = .next t ∧ t = { s with ac := t.ac } ∧ ∀ k, k < 18 →
      t.ac.getMsbD k = if k ≤ n then sign s.ac else s.ac.getMsbD (k - n)) ∧
    (∃ t, exec (.sil mask) s = .next t ∧ t = { s with io := t.io } ∧ ∀ k, k < 18 →
      t.io.getMsbD k = if k = 0 then sign s.io else if k + n < 18 then s.io.getMsbD (k + n) else sign s.io) ∧
    (∃ t, exec (.sir mask) s = .next t ∧ t = { s with io := t.io } ∧ ∀ k, k < 18 →
      t.io.getMsbD k = if k ≤ n then sign s.io else s.io.getMsbD (k - n)) ∧
    (∃ t, exec (.scl mask) s = .next t ∧ t = { s with ac := t.ac, io := t.io } ∧ ∀ k, k < 36 →
      t.combined.getMsbD k =
        if k = 0 then sign s.ac else if k + n < 36 then s.combined.getMsbD (k + n) else sign s.ac) ∧
    (∃ t, exec (.scr mask) s = .next t ∧ t = { s with ac := t.ac, io := t.io } ∧ ∀ k, k < 36 →
      t.combined.getMsbD k = if k ≤ n then sign s.ac else s.combined.getMsbD (k - n))

/-- With n the number of the nine bits of the count mask that are 1: sal answers a next state in which the integer of
AC is the old one times 2^n, provided that product is in -131071 .. 131071; sar answers one in which it is the old one
divided by 2^n, truncated toward zero; in both nothing else changes. -/
def Obligations.ShiftsMultiplyAndDivide : Prop :=
  ∀ (s : State) (mask : BitVec 9),
    let n := (List.range 9).countP fun k => mask.getLsbD k
    (-131071 ≤ val s.ac * 2 ^ n ∧ val s.ac * 2 ^ n ≤ 131071 →
      ∃ v, exec (.sal mask) s = .next { s with ac := v } ∧ val v = val s.ac * 2 ^ n) ∧
    (∃ v, exec (.sar mask) s = .next { s with ac := v } ∧ val v = (val s.ac).tdiv (2 ^ n))

/-- Every shift/rotate word answers a next state that differs at most in AC and IO, the same one as the instruction
its bits decode to. A word that selects no register, or whose count mask is zero, answers the same state: nothing
changes (decision D23). -/
def Obligations.ShiftGroupWord : Prop :=
  (∀ (s : State) (bits : BitVec 13),
      exec (.sft bits) s = exec (decodeShift bits) s ∧
      (∃ t, exec (.sft bits) s = .next t ∧ t = { s with ac := t.ac, io := t.io }) ∧
      ((bit 7 bits = false ∧ bit 8 bits = false) ∨ bits.extractLsb' 0 9 = 0 → exec (.sft bits) s = .next s)) ∧
    (∀ (s : State) (right shift : Bool) (mask : BitVec 9), exec (.sftNoRegister right shift mask) s = .next s)

/-- For every in-out instruction but ioh and the PDP-1D functions: if no installed option claims its word it is
refused as noInstalledDevice; if more than one does it is refused as twoOptionsClaim (decision D24). With both
displays installed dpp is refused as twoOptionsClaim where no row is narrowed, and where the rows of Type 30 are
narrowed by those of Type 31 the word of dpp is claimed by Type 31 alone. How a configuration says that it narrows
rows is the model's choice (notes/assumptions/37.md). -/
def Obligations.UnclaimedInOutRefused : Prop :=
  (∀ (i : Instr) (s : State), inOutInstr i = true → deviceOf i ≠ some .pdp1dInOut → encode i ≠ 0o730000 →
      (claimants s.cfg (encode i) = [] → exec i s = .refused .noInstalledDevice) ∧
      (1 < (claimants s.cfg (encode i)).length → exec i s = .refused .twoOptionsClaim)) ∧
    (∀ (s : State) (wait : Bool), Opt.type30 ∈ s.cfg.installed → Opt.type31 ∈ s.cfg.installed →
      (s.cfg.narrowed = [] → exec (.dpp wait) s = .refused .twoOptionsClaim) ∧
      (s.cfg.narrowed = [(.type30, .type31)] → claimants s.cfg (encode (.dpp wait)) = [.type31]))

/-- Every in-out instruction (iot and the rows of the reader, punch, typewriter, displays Type 30 and 31, symbol
generator, card punch and reader, tape control 51, converter, printer, Type 630 and Spacewar!) whose word one
installed option claims, that is no block mover, not Type 120 and not the PDP-1D functions, with the wait bit clear,
answers a next state in which IO, the program flags and that device's state are the device's answer and PC is advanced
once more exactly when the device says skip; nothing else changes (decision D24), but that sdb also loads each
installed display, whose state is then free except its done (which displays, and that the pulse is the generator's, is
the model's choice, notes/assumptions/36.md). It holds for every answer. -/
def Obligations.DeviceTransferCompletes : Prop :=
  ∀ (i : Instr) (s : State) (o : Opt), inOutInstr i = true → deviceOf i ≠ some .pdp1dInOut →
    claimants s.cfg (encode i) = [o] → iBit (encode i) = false →
    movesBlocks o = false → o ≠ .type120 → o ≠ .pdp1dInOut →
    ∃ t, exec i s = .next t ∧
      t = { s with
        io := (answer o i s).io, pf := (answer o i s).pf, devs := t.devs
        pc := if (answer o i s).skip then s.pc + 1 else s.pc } ∧
      devicesAfter o i s t (answer o i s).dev

/-- For an in-out instruction whose word Type 120 alone claims: if the configuration does not supply the break
mechanism it is refused as noBreakMechanism (decision D27); if it does and the wait bit is clear, it answers the next
state in which IO, the program flags, the state of Type 120 and a skip are the answer of the supplied relation, and
nothing else changes. -/
def Obligations.SequenceBreakInstructions : Prop :=
  ∀ (i : Instr) (s : State), inOutInstr i = true → deviceOf i ≠ some .pdp1dInOut →
    claimants s.cfg (encode i) = [.type120] →
    (s.cfg.breaks = false → exec i s = .refused .noBreakMechanism) ∧
    (s.cfg.breaks = true → iBit (encode i) = false →
      exec i s = .next { s with
        io := (answer .type120 i s).io, pf := (answer .type120 i s).pf
        devs := setDev .type120 (answer .type120 i s).dev s.devs
        pc := if (answer .type120 i s).skip then s.pc + 1 else s.pc })

/-- For an in-out instruction whose word Type 131, Type 52 or Type 510 alone claims, with the wait bit clear: it
answers a next state in which IO, the program flags, that device's state and a skip are the device's answer, every
word of memory is the last one the device wrote there or else as before, and nothing else but MB changes. That the
writes happen inside the step is decision D29. -/
def Obligations.BlockTransferCompletes : Prop :=
  ∀ (i : Instr) (s : State) (o : Opt), inOutInstr i = true → deviceOf i ≠ some .pdp1dInOut →
    claimants s.cfg (encode i) = [o] → iBit (encode i) = false → o = .type131 ∨ o = .type52 ∨ o = .type510 →
    ∃ t, exec i s = .next t ∧
      t = { s with
        io := (answer o i s).io, pf := (answer o i s).pf, devs := setDev o (answer o i s).dev s.devs
        pc := if (answer o i s).skip then s.pc + 1 else s.pc, mem := t.mem, mb := t.mb } ∧
      ∀ a, t.readWord a = readAfter (answer o i s).writes s a

/-- When the drum alone claims the word and the wait bit is clear: dia (from any set-up state), dwc (after dia), dcl
(after dwc), dba and dra answer a next state in which the set-up is at addressed, counted, idle and as before, IO, the
program flags, the drum's state and a skip are the device's answer, every word of memory is the last one the drum
wrote there or else as before, and nothing else but MB changes; dwc not after dia and dcl not after dwc are refused.
That dba and dra take no part and that the order is this strict are the model's choice (notes/assumptions/14.md). -/
def Obligations.DrumInstructions : Prop :=
  ∀ (i : Instr) (s : State), claimants s.cfg (encode i) = [.type23] →
    (∀ next : DrumSetup,
      ((∃ xx, i = .dia false xx ∧ xx ≠ 0o20 ∧ next = .addressed) ∨
        (∃ xx, i = .dwc false xx ∧ xx ≠ 0o20 ∧ s.drum = .addressed ∧ next = .counted) ∨
        (∃ xx, i = .dcl false xx ∧ s.drum = .counted ∧ next = .idle) ∨
        ((i = .dba false ∨ i = .dra false) ∧ next = s.drum)) →
      ∃ t, exec i s = .next t ∧
        t = { s with
          io := (answer .type23 i s).io, pf := (answer .type23 i s).pf
          devs := setDev .type23 (answer .type23 i s).dev s.devs, drum := next
          pc := if (answer .type23 i s).skip then s.pc + 1 else s.pc, mem := t.mem, mb := t.mb } ∧
        ∀ a, t.readWord a = readAfter (answer .type23 i s).writes s a) ∧
    ((∃ wait xx, (i = .dwc wait xx ∧ xx ≠ 0o20 ∧ s.drum ≠ .addressed) ∨ (i = .dcl wait xx ∧ s.drum ≠ .counted)) →
      exec i s = .refused .drumOutOfOrder)

/-- For an in-out instruction with the wait bit whose word one installed option claims (for Type 120 with the
mechanism supplied, for the drum in its set-up order, and not the PDP-1D functions): there is a state t with IO, the
program flags, a skip and for a block mover the words of memory from the device's answer, that device's own state then
free but not done, the displays as sdb leaves them, the drum set-up moved on for the drum, and nothing else changed
but MB for a block mover, such that the instruction answers t where the answer has reached done, and else ends in the
fault inOutWait, the processor stuck. It holds for every answer. That completion is read from done in the answer
itself, and that the device's own state is free after the pulse, is the model's choice (notes/assumptions/11.md); so
are which displays sdb loads and that their done is as before (notes/assumptions/36.md), and that the drum set-up
order is this strict (notes/assumptions/14.md). -/
def Obligations.WaitBitWaitsForDone : Prop :=
  ∀ (i : Instr) (s : State) (o : Opt), inOutInstr i = true → deviceOf i ≠ some .pdp1dInOut →
    claimants s.cfg (encode i) = [o] → iBit (encode i) = true → o ≠ .pdp1dInOut →
    (o = .type120 → s.cfg.breaks = true) → (o = .type23 → drumNext s.drum (encode i) ≠ none) →
    ∃ t, exec i s = (if (answer o i s).dev.done then .next t else .fault .inOutWait) ∧
      t = { s with
        io := (answer o i s).io, pf := (answer o i s).pf, devs := t.devs
        pc := if (answer o i s).skip then s.pc + 1 else s.pc, drum := t.drum, mem := t.mem, mb := t.mb } ∧
      devicesAfter o i s t ⟨Config.afterPulse o (answer o i s).dev, false⟩ ∧
      (∀ a, t.readWord a = if movesBlocks o then readAfter (answer o i s).writes s a else s.readWord a) ∧
      (movesBlocks o = false → t.mb = s.mb) ∧ (o ≠ .type23 → t.drum = s.drum) ∧
      (o = .type23 → drumNext s.drum (encode i) = some t.drum)

/-- If an in-out instruction answers a next state, then AC, OV, the sense switches, the test word, RUN, the parameters
and the named PDP-1D state are as before, PC is as before or advanced by one, every word of memory reads as before
unless the one claiming option moves blocks, and the state of every device but the claiming one is as before (decision
D24), except that sdb loads the displays Type 30 and 31, and then their done is as before: which displays, and that
their done is kept, is the model's choice (notes/assumptions/36.md). -/
def Obligations.InOutFrame : Prop :=
  ∀ (i : Instr) (s t : State), inOutInstr i = true → exec i s = .next t →
    t.ac = s.ac ∧ t.ov = s.ov ∧ t.ss = s.ss ∧ t.tw = s.tw ∧ t.run = s.run ∧ t.cfg = s.cfg ∧ t.named1d = s.named1d ∧
    (t.pc = s.pc ∨ t.pc = s.pc + 1) ∧
    ((∀ o, claimants s.cfg (encode i) = [o] → movesBlocks o = false) → ∀ a, t.readWord a = s.readWord a) ∧
    (∀ o p, claimants s.cfg (encode i) = [o] → p ≠ o →
      (devOf p t.devs).done = (devOf p s.devs).done ∧
      (¬(loadsDisplay o (encode i) = true ∧ (p = .type30 ∨ p = .type31)) → devOf p t.devs = devOf p s.devs))

/-- With an installed device whose completion pulse is outstanding (done), ioh answers a next state in which only the
state of one such device differs: it is no longer done, and else free. With options installed and no pulse outstanding
it ends in the fault inOutWait; with no option installed it is refused (decision D24). So where one pulse alone is
outstanding, a second ioh is stuck. Its word is 730000. That an outstanding pulse is the done of an installed device,
that ioh takes one of several and which is free, and that the device's own state is free after it, is the model's
choice (notes/assumptions/12.md). -/
def Obligations.IohWaitsForPulse : Prop :=
  (∀ s : State,
      ((∃ o ∈ s.cfg.installed, (devOf o s.devs).done = true) →
        ∃ o ∈ s.cfg.installed, (devOf o s.devs).done = true ∧
          exec .ioh s = .next { s with devs := setDev o ⟨Config.afterPulse o (devOf o s.devs), false⟩ s.devs }) ∧
      (s.cfg.installed ≠ [] → (∀ o ∈ s.cfg.installed, (devOf o s.devs).done = false) →
        exec .ioh s = .fault .inOutWait) ∧
      (s.cfg.installed = [] → exec .ioh s = .refused .noInstalledDevice) ∧
      (∀ o ∈ s.cfg.installed, (devOf o s.devs).done = true →
        (∀ p ∈ s.cfg.installed, p ≠ o → (devOf p s.devs).done = false) →
        ∃ t, exec .ioh s = .next t ∧ exec .ioh t = .fault .inOutWait)) ∧
    encode .ioh = 0o730000

/-- lch and dch are refused as characterInstruction, tad as twosComplementAdd, every word of code 74 (special, ifi,
idc, ida, scm, sci, scf, szl, cll, cml) as group74, and the PDP-1D in-out functions (erg, lrg, lrm, erm, rnm, rsm,
rck, ctb, rro, rri, gcf) as pdp1dInOut, in every state (decision D32). -/
def Obligations.PdpOneDStops : Prop :=
  ∀ s : State,
    (∀ i y, exec (.lch i y) s = .refused .characterInstruction ∧ exec (.dch i y) s = .refused .characterInstruction ∧
      exec (.tad i y) s = .refused .twosComplementAdd) ∧
    (∀ i ∈ [Instr.ifi, .idc, .ida, .scm, .sci, .scf, .szl, .cll, .cml], exec i s = .refused .group74) ∧
    (∀ bits, exec (.special bits) s = .refused .group74) ∧
    (∀ wait, ∀ i ∈ [Instr.erg wait, .lrg wait, .lrm wait, .erm wait, .rnm wait, .rsm wait, .gcf wait],
      exec i s = .refused .pdp1dInOut) ∧
    (∀ wait xx, ∀ i ∈ [Instr.rck wait xx, .ctb wait xx, .rro wait xx, .rri wait xx], exec i s = .refused .pdp1dInOut)

/-- If executing an instruction answers a next state in which OV is 1 and it was 0, then the instruction performed
(the one an xct reaches, where it is an xct) is add or sub; and if the instruction performed is add or sub and OV was
1, it is 1 after it. -/
def Obligations.OverflowIsSetByAddAndSub : Prop :=
  ∀ (i : Instr) (s t : State), exec i s = .next t →
    (s.ov = false → t.ov = true → setsOverflow (performedBy i s) = true) ∧
    (setsOverflow (performedBy i s) = true → s.ov = true → t.ov = true)

/-- If executing an instruction answers a next state in which some program flag differs, then the instruction
performed (the one an xct reaches, where it is an xct) is stf, clf or an operate union, or an in-out transfer. -/
def Obligations.ProgramFlagWriters : Prop :=
  ∀ (i : Instr) (s t : State), exec i s = .next t → t.pf ≠ s.pf →
    writesFlags (performedBy i s) = true ∨ inOutInstr (performedBy i s) = true

/-- If executing an instruction of a running computer answers a next state, then RUN is 0 in it exactly when the
instruction performed (the one an xct reaches, where it is an xct) is hlt, an operate union with bit 9 set, or a spare
code. -/
def Obligations.HaltSourcesComplete : Prop :=
  ∀ (i : Instr) (s t : State), exec i s = .next t → s.run = true →
    (t.run = false ↔ halts (performedBy i s) = true)

/-- If executing an instruction answers a next state and the instruction performed (the one an xct reaches, where it
is an xct) is none of dac, dap, dip, dio, dzm, idx, isp, jda, cal, and is no in-out transfer whose claiming option
moves blocks, then every word of memory reads as before. -/
def Obligations.NonStoringKeepMemory : Prop :=
  ∀ (i : Instr) (s t : State), exec i s = .next t → stores (performedBy i s) = false →
    (inOutInstr (performedBy i s) = true →
      ∀ o ∈ claimants s.cfg (encode (performedBy i s)), movesBlocks o = false) →
    ∀ a, t.readWord a = s.readWord a

/-- On a PDP-1 with no in-out option, every well-formed instruction that does not perform an in-out transfer answers a
next state or is stuck in an endless defer or xct chain, and one with no address to defer answers a next state:
nothing traps, no address faults. -/
def Obligations.NoInstructionTraps : Prop :=
  ∀ (i : Instr) (s : State), s.cfg.pdp1d = false → s.cfg.devices = [] → wellFormed s.cfg i = true →
    inOutInstr (performedBy i s) = false →
    ((∃ t, exec i s = .next t) ∨ exec i s = .fault .deferLoop ∨ exec i s = .fault .xctLoop) ∧
    (deferParts i = none → ∃ t, exec i s = .next t)

/-- While RUN is 1 and no break mechanism is supplied: let dac, dap, dip, dio, dzm, idx, isp, jda or cal store the
word v at address e (for jda its Y, for cal 100, else the effective address). It answers a next state t whose word at
e is v, and the step from t, or from t with PC set to e where t is elsewhere, executes the instruction that v decodes
to, with MB holding v and PC advanced to e + 1: the next fetch sees the store, also where the instruction has
overwritten the word after itself. PC in t is as it was for dac, dap, dip, dio, dzm and idx, one more for isp where
the sign of v is 0, and e + 1 for jda and cal. That a store is seen at once is the spec's inference of rule R65,
decision D30. -/
def Obligations.StoreSeenByNextFetch : Prop :=
  ∀ (i : Instr) (s : State) (e : Addr) (v : Word), s.run = true → s.cfg.breaks = false →
    ((∃ d y s1, s.ea d y = some (e, s1) ∧
        ((i = .dac d y ∧ v = s.ac) ∨ (i = .dio d y ∧ v = s.io) ∨ (i = .dzm d y ∧ v = 0) ∨
          (i = .dap d y ∧ v = instrPart (s.readWord e) ++ addrPart s.ac) ∨
          (i = .dip d y ∧ v = instrPart s.ac ++ addrPart (s.readWord e)) ∨
          ((i = .idx d y ∨ i = .isp d y) ∧ v = indexed (s.readWord e)))) ∨
      (i = .jda e ∧ v = s.ac) ∨ ((∃ y, i = .cal y) ∧ e = 0o100 ∧ v = s.ac)) →
    ∃ t, exec i s = .next t ∧ t.readWord e = v ∧
      step { t with pc := e } = exec (decode s.cfg v) { t with mb := v, pc := e + 1 } ∧
      (t.pc = e → step t = exec (decode s.cfg v) { t with mb := v, pc := e + 1 }) ∧
      t.pc = match i with
        | .isp _ _ => if sign v then s.pc else s.pc + 1
        | .jda _ | .cal _ => e + 1
        | _ => s.pc

end Statements
end

