-- ==== Sys2Proof/Laws/State.lean ====
section
/-! SUPPORT. One lemma per field for each update of the state, so that no proof unfolds a record update. -/

namespace Sys2Proof.Machine

variable (s : State)

@[simp] theorem State.afterRead_ac (a : Addr) : (s.afterRead a).ac = s.ac := rfl
@[simp] theorem State.afterRead_io (a : Addr) : (s.afterRead a).io = s.io := rfl
@[simp] theorem State.afterRead_pc (a : Addr) : (s.afterRead a).pc = s.pc := rfl
@[simp] theorem State.afterRead_ov (a : Addr) : (s.afterRead a).ov = s.ov := rfl
@[simp] theorem State.afterRead_pf (a : Addr) : (s.afterRead a).pf = s.pf := rfl
@[simp] theorem State.afterRead_ss (a : Addr) : (s.afterRead a).ss = s.ss := rfl
@[simp] theorem State.afterRead_tw (a : Addr) : (s.afterRead a).tw = s.tw := rfl
@[simp] theorem State.afterRead_mb (a : Addr) : (s.afterRead a).mb = s.readWord a := rfl
@[simp] theorem State.afterRead_run (a : Addr) : (s.afterRead a).run = s.run := rfl
@[simp] theorem State.afterRead_mem (a : Addr) : (s.afterRead a).mem = s.mem := rfl
@[simp] theorem State.afterRead_devs (a : Addr) : (s.afterRead a).devs = s.devs := rfl
@[simp] theorem State.afterRead_drum (a : Addr) : (s.afterRead a).drum = s.drum := rfl
@[simp] theorem State.afterRead_named1d (a : Addr) : (s.afterRead a).named1d = s.named1d := rfl
@[simp] theorem State.afterRead_cfg (a : Addr) : (s.afterRead a).cfg = s.cfg := rfl

@[simp] theorem State.writeWord_ac (a : Addr) (v : Word) : (s.writeWord a v).ac = s.ac := rfl
@[simp] theorem State.writeWord_io (a : Addr) (v : Word) : (s.writeWord a v).io = s.io := rfl
@[simp] theorem State.writeWord_pc (a : Addr) (v : Word) : (s.writeWord a v).pc = s.pc := rfl
@[simp] theorem State.writeWord_ov (a : Addr) (v : Word) : (s.writeWord a v).ov = s.ov := rfl
@[simp] theorem State.writeWord_pf (a : Addr) (v : Word) : (s.writeWord a v).pf = s.pf := rfl
@[simp] theorem State.writeWord_ss (a : Addr) (v : Word) : (s.writeWord a v).ss = s.ss := rfl
@[simp] theorem State.writeWord_tw (a : Addr) (v : Word) : (s.writeWord a v).tw = s.tw := rfl
@[simp] theorem State.writeWord_mb (a : Addr) (v : Word) : (s.writeWord a v).mb = v := rfl
@[simp] theorem State.writeWord_run (a : Addr) (v : Word) : (s.writeWord a v).run = s.run := rfl
@[simp] theorem State.writeWord_mem (a : Addr) (v : Word) : (s.writeWord a v).mem = memWrite s.mem a.toNat v := rfl
@[simp] theorem State.writeWord_devs (a : Addr) (v : Word) : (s.writeWord a v).devs = s.devs := rfl
@[simp] theorem State.writeWord_drum (a : Addr) (v : Word) : (s.writeWord a v).drum = s.drum := rfl
@[simp] theorem State.writeWord_named1d (a : Addr) (v : Word) : (s.writeWord a v).named1d = s.named1d := rfl
@[simp] theorem State.writeWord_cfg (a : Addr) (v : Word) : (s.writeWord a v).cfg = s.cfg := rfl

@[simp] theorem State.skip_ac : (s.skip).ac = s.ac := rfl
@[simp] theorem State.skip_io : (s.skip).io = s.io := rfl
@[simp] theorem State.skip_pc : (s.skip).pc = s.pc + 1 := rfl
@[simp] theorem State.skip_ov : (s.skip).ov = s.ov := rfl
@[simp] theorem State.skip_pf : (s.skip).pf = s.pf := rfl
@[simp] theorem State.skip_ss : (s.skip).ss = s.ss := rfl
@[simp] theorem State.skip_tw : (s.skip).tw = s.tw := rfl
@[simp] theorem State.skip_mb : (s.skip).mb = s.mb := rfl
@[simp] theorem State.skip_run : (s.skip).run = s.run := rfl
@[simp] theorem State.skip_mem : (s.skip).mem = s.mem := rfl
@[simp] theorem State.skip_devs : (s.skip).devs = s.devs := rfl
@[simp] theorem State.skip_drum : (s.skip).drum = s.drum := rfl
@[simp] theorem State.skip_named1d : (s.skip).named1d = s.named1d := rfl
@[simp] theorem State.skip_cfg : (s.skip).cfg = s.cfg := rfl

@[simp] theorem State.halt_ac : (s.halt).ac = s.ac := rfl
@[simp] theorem State.halt_io : (s.halt).io = s.io := rfl
@[simp] theorem State.halt_pc : (s.halt).pc = s.pc := rfl
@[simp] theorem State.halt_ov : (s.halt).ov = s.ov := rfl
@[simp] theorem State.halt_pf : (s.halt).pf = s.pf := rfl
@[simp] theorem State.halt_ss : (s.halt).ss = s.ss := rfl
@[simp] theorem State.halt_tw : (s.halt).tw = s.tw := rfl
@[simp] theorem State.halt_mb : (s.halt).mb = s.mb := rfl
@[simp] theorem State.halt_run : (s.halt).run = false := rfl
@[simp] theorem State.halt_mem : (s.halt).mem = s.mem := rfl
@[simp] theorem State.halt_devs : (s.halt).devs = s.devs := rfl
@[simp] theorem State.halt_drum : (s.halt).drum = s.drum := rfl
@[simp] theorem State.halt_named1d : (s.halt).named1d = s.named1d := rfl
@[simp] theorem State.halt_cfg : (s.halt).cfg = s.cfg := rfl

@[simp] theorem State.fetched_ac : (s.fetched).ac = s.ac := rfl
@[simp] theorem State.fetched_io : (s.fetched).io = s.io := rfl
@[simp] theorem State.fetched_pc : (s.fetched).pc = s.pc + 1 := rfl
@[simp] theorem State.fetched_ov : (s.fetched).ov = s.ov := rfl
@[simp] theorem State.fetched_pf : (s.fetched).pf = s.pf := rfl
@[simp] theorem State.fetched_ss : (s.fetched).ss = s.ss := rfl
@[simp] theorem State.fetched_tw : (s.fetched).tw = s.tw := rfl
@[simp] theorem State.fetched_mb : (s.fetched).mb = s.readWord s.pc := rfl
@[simp] theorem State.fetched_run : (s.fetched).run = s.run := rfl
@[simp] theorem State.fetched_mem : (s.fetched).mem = s.mem := rfl
@[simp] theorem State.fetched_devs : (s.fetched).devs = s.devs := rfl
@[simp] theorem State.fetched_drum : (s.fetched).drum = s.drum := rfl
@[simp] theorem State.fetched_named1d : (s.fetched).named1d = s.named1d := rfl
@[simp] theorem State.fetched_cfg : (s.fetched).cfg = s.cfg := rfl

@[simp] theorem State.call_ac (y : Addr) : (s.call y).ac = s.pcword := rfl
@[simp] theorem State.call_io (y : Addr) : (s.call y).io = s.io := rfl
@[simp] theorem State.call_pc (y : Addr) : (s.call y).pc = y + 1 := rfl
@[simp] theorem State.call_ov (y : Addr) : (s.call y).ov = s.ov := rfl
@[simp] theorem State.call_pf (y : Addr) : (s.call y).pf = s.pf := rfl
@[simp] theorem State.call_ss (y : Addr) : (s.call y).ss = s.ss := rfl
@[simp] theorem State.call_tw (y : Addr) : (s.call y).tw = s.tw := rfl
@[simp] theorem State.call_mb (y : Addr) : (s.call y).mb = s.ac := rfl
@[simp] theorem State.call_run (y : Addr) : (s.call y).run = s.run := rfl
@[simp] theorem State.call_mem (y : Addr) : (s.call y).mem = memWrite s.mem y.toNat s.ac := rfl
@[simp] theorem State.call_devs (y : Addr) : (s.call y).devs = s.devs := rfl
@[simp] theorem State.call_drum (y : Addr) : (s.call y).drum = s.drum := rfl
@[simp] theorem State.call_named1d (y : Addr) : (s.call y).named1d = s.named1d := rfl
@[simp] theorem State.call_cfg (y : Addr) : (s.call y).cfg = s.cfg := rfl

@[simp] theorem State.clearIo_ac : (s.clearIo).ac = s.ac := rfl
@[simp] theorem State.clearIo_io : (s.clearIo).io = 0 := rfl
@[simp] theorem State.clearIo_pc : (s.clearIo).pc = s.pc := rfl
@[simp] theorem State.clearIo_ov : (s.clearIo).ov = s.ov := rfl
@[simp] theorem State.clearIo_pf : (s.clearIo).pf = s.pf := rfl
@[simp] theorem State.clearIo_ss : (s.clearIo).ss = s.ss := rfl
@[simp] theorem State.clearIo_tw : (s.clearIo).tw = s.tw := rfl
@[simp] theorem State.clearIo_mb : (s.clearIo).mb = s.mb := rfl
@[simp] theorem State.clearIo_run : (s.clearIo).run = s.run := rfl
@[simp] theorem State.clearIo_mem : (s.clearIo).mem = s.mem := rfl
@[simp] theorem State.clearIo_devs : (s.clearIo).devs = s.devs := rfl
@[simp] theorem State.clearIo_drum : (s.clearIo).drum = s.drum := rfl
@[simp] theorem State.clearIo_named1d : (s.clearIo).named1d = s.named1d := rfl
@[simp] theorem State.clearIo_cfg : (s.clearIo).cfg = s.cfg := rfl

@[simp] theorem State.clearAc_ac : (s.clearAc).ac = 0 := rfl
@[simp] theorem State.clearAc_io : (s.clearAc).io = s.io := rfl
@[simp] theorem State.clearAc_pc : (s.clearAc).pc = s.pc := rfl
@[simp] theorem State.clearAc_ov : (s.clearAc).ov = s.ov := rfl
@[simp] theorem State.clearAc_pf : (s.clearAc).pf = s.pf := rfl
@[simp] theorem State.clearAc_ss : (s.clearAc).ss = s.ss := rfl
@[simp] theorem State.clearAc_tw : (s.clearAc).tw = s.tw := rfl
@[simp] theorem State.clearAc_mb : (s.clearAc).mb = s.mb := rfl
@[simp] theorem State.clearAc_run : (s.clearAc).run = s.run := rfl
@[simp] theorem State.clearAc_mem : (s.clearAc).mem = s.mem := rfl
@[simp] theorem State.clearAc_devs : (s.clearAc).devs = s.devs := rfl
@[simp] theorem State.clearAc_drum : (s.clearAc).drum = s.drum := rfl
@[simp] theorem State.clearAc_named1d : (s.clearAc).named1d = s.named1d := rfl
@[simp] theorem State.clearAc_cfg : (s.clearAc).cfg = s.cfg := rfl

@[simp] theorem State.orTestWord_ac : (s.orTestWord).ac = s.ac ||| s.tw := rfl
@[simp] theorem State.orTestWord_io : (s.orTestWord).io = s.io := rfl
@[simp] theorem State.orTestWord_pc : (s.orTestWord).pc = s.pc := rfl
@[simp] theorem State.orTestWord_ov : (s.orTestWord).ov = s.ov := rfl
@[simp] theorem State.orTestWord_pf : (s.orTestWord).pf = s.pf := rfl
@[simp] theorem State.orTestWord_ss : (s.orTestWord).ss = s.ss := rfl
@[simp] theorem State.orTestWord_tw : (s.orTestWord).tw = s.tw := rfl
@[simp] theorem State.orTestWord_mb : (s.orTestWord).mb = s.mb := rfl
@[simp] theorem State.orTestWord_run : (s.orTestWord).run = s.run := rfl
@[simp] theorem State.orTestWord_mem : (s.orTestWord).mem = s.mem := rfl
@[simp] theorem State.orTestWord_devs : (s.orTestWord).devs = s.devs := rfl
@[simp] theorem State.orTestWord_drum : (s.orTestWord).drum = s.drum := rfl
@[simp] theorem State.orTestWord_named1d : (s.orTestWord).named1d = s.named1d := rfl
@[simp] theorem State.orTestWord_cfg : (s.orTestWord).cfg = s.cfg := rfl

@[simp] theorem State.orPcword_ac : (s.orPcword).ac = s.ac ||| s.pcword := rfl
@[simp] theorem State.orPcword_io : (s.orPcword).io = s.io := rfl
@[simp] theorem State.orPcword_pc : (s.orPcword).pc = s.pc := rfl
@[simp] theorem State.orPcword_ov : (s.orPcword).ov = s.ov := rfl
@[simp] theorem State.orPcword_pf : (s.orPcword).pf = s.pf := rfl
@[simp] theorem State.orPcword_ss : (s.orPcword).ss = s.ss := rfl
@[simp] theorem State.orPcword_tw : (s.orPcword).tw = s.tw := rfl
@[simp] theorem State.orPcword_mb : (s.orPcword).mb = s.mb := rfl
@[simp] theorem State.orPcword_run : (s.orPcword).run = s.run := rfl
@[simp] theorem State.orPcword_mem : (s.orPcword).mem = s.mem := rfl
@[simp] theorem State.orPcword_devs : (s.orPcword).devs = s.devs := rfl
@[simp] theorem State.orPcword_drum : (s.orPcword).drum = s.drum := rfl
@[simp] theorem State.orPcword_named1d : (s.orPcword).named1d = s.named1d := rfl
@[simp] theorem State.orPcword_cfg : (s.orPcword).cfg = s.cfg := rfl

@[simp] theorem State.complementAc_ac : (s.complementAc).ac = ~~~s.ac := rfl
@[simp] theorem State.complementAc_io : (s.complementAc).io = s.io := rfl
@[simp] theorem State.complementAc_pc : (s.complementAc).pc = s.pc := rfl
@[simp] theorem State.complementAc_ov : (s.complementAc).ov = s.ov := rfl
@[simp] theorem State.complementAc_pf : (s.complementAc).pf = s.pf := rfl
@[simp] theorem State.complementAc_ss : (s.complementAc).ss = s.ss := rfl
@[simp] theorem State.complementAc_tw : (s.complementAc).tw = s.tw := rfl
@[simp] theorem State.complementAc_mb : (s.complementAc).mb = s.mb := rfl
@[simp] theorem State.complementAc_run : (s.complementAc).run = s.run := rfl
@[simp] theorem State.complementAc_mem : (s.complementAc).mem = s.mem := rfl
@[simp] theorem State.complementAc_devs : (s.complementAc).devs = s.devs := rfl
@[simp] theorem State.complementAc_drum : (s.complementAc).drum = s.drum := rfl
@[simp] theorem State.complementAc_named1d : (s.complementAc).named1d = s.named1d := rfl
@[simp] theorem State.complementAc_cfg : (s.complementAc).cfg = s.cfg := rfl

@[simp] theorem State.complementIo_ac : (s.complementIo).ac = s.ac := rfl
@[simp] theorem State.complementIo_io : (s.complementIo).io = ~~~s.io := rfl
@[simp] theorem State.complementIo_pc : (s.complementIo).pc = s.pc := rfl
@[simp] theorem State.complementIo_ov : (s.complementIo).ov = s.ov := rfl
@[simp] theorem State.complementIo_pf : (s.complementIo).pf = s.pf := rfl
@[simp] theorem State.complementIo_ss : (s.complementIo).ss = s.ss := rfl
@[simp] theorem State.complementIo_tw : (s.complementIo).tw = s.tw := rfl
@[simp] theorem State.complementIo_mb : (s.complementIo).mb = s.mb := rfl
@[simp] theorem State.complementIo_run : (s.complementIo).run = s.run := rfl
@[simp] theorem State.complementIo_mem : (s.complementIo).mem = s.mem := rfl
@[simp] theorem State.complementIo_devs : (s.complementIo).devs = s.devs := rfl
@[simp] theorem State.complementIo_drum : (s.complementIo).drum = s.drum := rfl
@[simp] theorem State.complementIo_named1d : (s.complementIo).named1d = s.named1d := rfl
@[simp] theorem State.complementIo_cfg : (s.complementIo).cfg = s.cfg := rfl

@[simp] theorem State.exchange_ac (lia lai : Bool) : (s.exchange lia lai).ac = if lai then s.io else s.ac := rfl
@[simp] theorem State.exchange_io (lia lai : Bool) : (s.exchange lia lai).io = if lia then s.ac else s.io := rfl
@[simp] theorem State.exchange_pc (lia lai : Bool) : (s.exchange lia lai).pc = s.pc := rfl
@[simp] theorem State.exchange_ov (lia lai : Bool) : (s.exchange lia lai).ov = s.ov := rfl
@[simp] theorem State.exchange_pf (lia lai : Bool) : (s.exchange lia lai).pf = s.pf := rfl
@[simp] theorem State.exchange_ss (lia lai : Bool) : (s.exchange lia lai).ss = s.ss := rfl
@[simp] theorem State.exchange_tw (lia lai : Bool) : (s.exchange lia lai).tw = s.tw := rfl
@[simp] theorem State.exchange_mb (lia lai : Bool) : (s.exchange lia lai).mb = s.mb := rfl
@[simp] theorem State.exchange_run (lia lai : Bool) : (s.exchange lia lai).run = s.run := rfl
@[simp] theorem State.exchange_mem (lia lai : Bool) : (s.exchange lia lai).mem = s.mem := rfl
@[simp] theorem State.exchange_devs (lia lai : Bool) : (s.exchange lia lai).devs = s.devs := rfl
@[simp] theorem State.exchange_drum (lia lai : Bool) : (s.exchange lia lai).drum = s.drum := rfl
@[simp] theorem State.exchange_named1d (lia lai : Bool) : (s.exchange lia lai).named1d = s.named1d := rfl
@[simp] theorem State.exchange_cfg (lia lai : Bool) : (s.exchange lia lai).cfg = s.cfg := rfl

@[simp] theorem State.setFlags_ac (f : BitVec 3) (v : Bool) : (s.setFlags f v).ac = s.ac := rfl
@[simp] theorem State.setFlags_io (f : BitVec 3) (v : Bool) : (s.setFlags f v).io = s.io := rfl
@[simp] theorem State.setFlags_pc (f : BitVec 3) (v : Bool) : (s.setFlags f v).pc = s.pc := rfl
@[simp] theorem State.setFlags_ov (f : BitVec 3) (v : Bool) : (s.setFlags f v).ov = s.ov := rfl
@[simp] theorem State.setFlags_pf (f : BitVec 3) (v : Bool) : (s.setFlags f v).pf = setSelected s.pf f v := rfl
@[simp] theorem State.setFlags_ss (f : BitVec 3) (v : Bool) : (s.setFlags f v).ss = s.ss := rfl
@[simp] theorem State.setFlags_tw (f : BitVec 3) (v : Bool) : (s.setFlags f v).tw = s.tw := rfl
@[simp] theorem State.setFlags_mb (f : BitVec 3) (v : Bool) : (s.setFlags f v).mb = s.mb := rfl
@[simp] theorem State.setFlags_run (f : BitVec 3) (v : Bool) : (s.setFlags f v).run = s.run := rfl
@[simp] theorem State.setFlags_mem (f : BitVec 3) (v : Bool) : (s.setFlags f v).mem = s.mem := rfl
@[simp] theorem State.setFlags_devs (f : BitVec 3) (v : Bool) : (s.setFlags f v).devs = s.devs := rfl
@[simp] theorem State.setFlags_drum (f : BitVec 3) (v : Bool) : (s.setFlags f v).drum = s.drum := rfl
@[simp] theorem State.setFlags_named1d (f : BitVec 3) (v : Bool) : (s.setFlags f v).named1d = s.named1d := rfl
@[simp] theorem State.setFlags_cfg (f : BitVec 3) (v : Bool) : (s.setFlags f v).cfg = s.cfg := rfl

@[simp] theorem State.shiftAc_ac (right shift : Bool) (mask : BitVec 9) :
    (s.shiftAc right shift mask).ac = times (popcount mask) (place right shift) s.ac := rfl
@[simp] theorem State.shiftAc_io (right shift : Bool) (mask : BitVec 9) :
    (s.shiftAc right shift mask).io = s.io := rfl
@[simp] theorem State.shiftAc_pc (right shift : Bool) (mask : BitVec 9) :
    (s.shiftAc right shift mask).pc = s.pc := rfl
@[simp] theorem State.shiftAc_ov (right shift : Bool) (mask : BitVec 9) :
    (s.shiftAc right shift mask).ov = s.ov := rfl
@[simp] theorem State.shiftAc_pf (right shift : Bool) (mask : BitVec 9) :
    (s.shiftAc right shift mask).pf = s.pf := rfl
@[simp] theorem State.shiftAc_ss (right shift : Bool) (mask : BitVec 9) :
    (s.shiftAc right shift mask).ss = s.ss := rfl
@[simp] theorem State.shiftAc_tw (right shift : Bool) (mask : BitVec 9) :
    (s.shiftAc right shift mask).tw = s.tw := rfl
@[simp] theorem State.shiftAc_mb (right shift : Bool) (mask : BitVec 9) :
    (s.shiftAc right shift mask).mb = s.mb := rfl
@[simp] theorem State.shiftAc_run (right shift : Bool) (mask : BitVec 9) :
    (s.shiftAc right shift mask).run = s.run := rfl
@[simp] theorem State.shiftAc_mem (right shift : Bool) (mask : BitVec 9) :
    (s.shiftAc right shift mask).mem = s.mem := rfl
@[simp] theorem State.shiftAc_devs (right shift : Bool) (mask : BitVec 9) :
    (s.shiftAc right shift mask).devs = s.devs := rfl
@[simp] theorem State.shiftAc_drum (right shift : Bool) (mask : BitVec 9) :
    (s.shiftAc right shift mask).drum = s.drum := rfl
@[simp] theorem State.shiftAc_named1d (right shift : Bool) (mask : BitVec 9) :
    (s.shiftAc right shift mask).named1d = s.named1d := rfl
@[simp] theorem State.shiftAc_cfg (right shift : Bool) (mask : BitVec 9) :
    (s.shiftAc right shift mask).cfg = s.cfg := rfl

@[simp] theorem State.shiftIo_ac (right shift : Bool) (mask : BitVec 9) :
    (s.shiftIo right shift mask).ac = s.ac := rfl
@[simp] theorem State.shiftIo_io (right shift : Bool) (mask : BitVec 9) :
    (s.shiftIo right shift mask).io = times (popcount mask) (place right shift) s.io := rfl
@[simp] theorem State.shiftIo_pc (right shift : Bool) (mask : BitVec 9) :
    (s.shiftIo right shift mask).pc = s.pc := rfl
@[simp] theorem State.shiftIo_ov (right shift : Bool) (mask : BitVec 9) :
    (s.shiftIo right shift mask).ov = s.ov := rfl
@[simp] theorem State.shiftIo_pf (right shift : Bool) (mask : BitVec 9) :
    (s.shiftIo right shift mask).pf = s.pf := rfl
@[simp] theorem State.shiftIo_ss (right shift : Bool) (mask : BitVec 9) :
    (s.shiftIo right shift mask).ss = s.ss := rfl
@[simp] theorem State.shiftIo_tw (right shift : Bool) (mask : BitVec 9) :
    (s.shiftIo right shift mask).tw = s.tw := rfl
@[simp] theorem State.shiftIo_mb (right shift : Bool) (mask : BitVec 9) :
    (s.shiftIo right shift mask).mb = s.mb := rfl
@[simp] theorem State.shiftIo_run (right shift : Bool) (mask : BitVec 9) :
    (s.shiftIo right shift mask).run = s.run := rfl
@[simp] theorem State.shiftIo_mem (right shift : Bool) (mask : BitVec 9) :
    (s.shiftIo right shift mask).mem = s.mem := rfl
@[simp] theorem State.shiftIo_devs (right shift : Bool) (mask : BitVec 9) :
    (s.shiftIo right shift mask).devs = s.devs := rfl
@[simp] theorem State.shiftIo_drum (right shift : Bool) (mask : BitVec 9) :
    (s.shiftIo right shift mask).drum = s.drum := rfl
@[simp] theorem State.shiftIo_named1d (right shift : Bool) (mask : BitVec 9) :
    (s.shiftIo right shift mask).named1d = s.named1d := rfl
@[simp] theorem State.shiftIo_cfg (right shift : Bool) (mask : BitVec 9) :
    (s.shiftIo right shift mask).cfg = s.cfg := rfl

@[simp] theorem State.shiftBoth_ac (right shift : Bool) (mask : BitVec 9) :
    (s.shiftBoth right shift mask).ac = (times (popcount mask) (place right shift) s.combined).extractLsb' 18 18 := rfl
@[simp] theorem State.shiftBoth_io (right shift : Bool) (mask : BitVec 9) :
    (s.shiftBoth right shift mask).io = (times (popcount mask) (place right shift) s.combined).extractLsb' 0 18 := rfl
@[simp] theorem State.shiftBoth_pc (right shift : Bool) (mask : BitVec 9) :
    (s.shiftBoth right shift mask).pc = s.pc := rfl
@[simp] theorem State.shiftBoth_ov (right shift : Bool) (mask : BitVec 9) :
    (s.shiftBoth right shift mask).ov = s.ov := rfl
@[simp] theorem State.shiftBoth_pf (right shift : Bool) (mask : BitVec 9) :
    (s.shiftBoth right shift mask).pf = s.pf := rfl
@[simp] theorem State.shiftBoth_ss (right shift : Bool) (mask : BitVec 9) :
    (s.shiftBoth right shift mask).ss = s.ss := rfl
@[simp] theorem State.shiftBoth_tw (right shift : Bool) (mask : BitVec 9) :
    (s.shiftBoth right shift mask).tw = s.tw := rfl
@[simp] theorem State.shiftBoth_mb (right shift : Bool) (mask : BitVec 9) :
    (s.shiftBoth right shift mask).mb = s.mb := rfl
@[simp] theorem State.shiftBoth_run (right shift : Bool) (mask : BitVec 9) :
    (s.shiftBoth right shift mask).run = s.run := rfl
@[simp] theorem State.shiftBoth_mem (right shift : Bool) (mask : BitVec 9) :
    (s.shiftBoth right shift mask).mem = s.mem := rfl
@[simp] theorem State.shiftBoth_devs (right shift : Bool) (mask : BitVec 9) :
    (s.shiftBoth right shift mask).devs = s.devs := rfl
@[simp] theorem State.shiftBoth_drum (right shift : Bool) (mask : BitVec 9) :
    (s.shiftBoth right shift mask).drum = s.drum := rfl
@[simp] theorem State.shiftBoth_named1d (right shift : Bool) (mask : BitVec 9) :
    (s.shiftBoth right shift mask).named1d = s.named1d := rfl
@[simp] theorem State.shiftBoth_cfg (right shift : Bool) (mask : BitVec 9) :
    (s.shiftBoth right shift mask).cfg = s.cfg := rfl

@[simp] theorem State.skipIf_ac (c : Bool) : (s.skipIf c).ac = s.ac := by cases c <;> rfl
@[simp] theorem State.skipIf_io (c : Bool) : (s.skipIf c).io = s.io := by cases c <;> rfl
@[simp] theorem State.skipIf_pc (c : Bool) : (s.skipIf c).pc = if c then s.pc + 1 else s.pc := by cases c <;> rfl
@[simp] theorem State.skipIf_ov (c : Bool) : (s.skipIf c).ov = s.ov := by cases c <;> rfl
@[simp] theorem State.skipIf_pf (c : Bool) : (s.skipIf c).pf = s.pf := by cases c <;> rfl
@[simp] theorem State.skipIf_ss (c : Bool) : (s.skipIf c).ss = s.ss := by cases c <;> rfl
@[simp] theorem State.skipIf_tw (c : Bool) : (s.skipIf c).tw = s.tw := by cases c <;> rfl
@[simp] theorem State.skipIf_mb (c : Bool) : (s.skipIf c).mb = s.mb := by cases c <;> rfl
@[simp] theorem State.skipIf_run (c : Bool) : (s.skipIf c).run = s.run := by cases c <;> rfl
@[simp] theorem State.skipIf_mem (c : Bool) : (s.skipIf c).mem = s.mem := by cases c <;> rfl
@[simp] theorem State.skipIf_devs (c : Bool) : (s.skipIf c).devs = s.devs := by cases c <;> rfl
@[simp] theorem State.skipIf_drum (c : Bool) : (s.skipIf c).drum = s.drum := by cases c <;> rfl
@[simp] theorem State.skipIf_named1d (c : Bool) : (s.skipIf c).named1d = s.named1d := by cases c <;> rfl
@[simp] theorem State.skipIf_cfg (c : Bool) : (s.skipIf c).cfg = s.cfg := by cases c <;> rfl

/-- A conditional skip as one record update. -/
theorem State.skipIf_eq (c : Bool) : s.skipIf c = { s with pc := if c then s.pc + 1 else s.pc } := by cases c <;> rfl

/-- A conditional micro-operation, field by field of its result. -/
theorem State.doIf_eq (c : Bool) (micro : State → State) : s.doIf c micro = if c then micro s else s := rfl

/-- Reading a word sees memory only. -/
theorem State.readWord_eq (a : Addr) : s.readWord a = memRead s.mem a.toNat := rfl

end Sys2Proof.Machine
end

