-- ==== Sys2Proof/Laws/Memory.lean ====
section
/-! SUPPORT. The laws of core memory: what a read gives after a write, and the canonical form, which every memory operation
keeps. -/

namespace Sys2Proof.Machine

/-- Inserting a cell: the address inserted reads the value, every other reads as before, where the list does not hold the
address yet. -/
theorem memRead_memInsert (a b : Nat) (v : Word) (m : Mem) (h : ∀ c ∈ m, c.1 ≠ a) :
    memRead (memInsert a v m) b = if b = a then v else memRead m b := by
  induction m with
  | nil =>
    by_cases hb : b = a
    · simp [memInsert, memRead, hb]
    · simp [memInsert, memRead, hb, Ne.symm hb]
  | cons c r ih =>
    obtain ⟨k, x⟩ := c
    have hk : k ≠ a := h (k, x) (by simp)
    have hr := ih fun c hc => h c (by simp [hc])
    by_cases hb : b = a
    · subst hb
      by_cases hlt : b < k
      · simp [memInsert, memRead, hlt]
      · simp [memInsert, memRead, hlt, hk, hr]
    · by_cases hlt : a < k
      · simp [memInsert, memRead, hlt, hb, Ne.symm hb]
      · simp [memInsert, memRead, hlt, hr, hb]

/-- Taking a cell out: every other address reads as before. -/
theorem memRead_filter (a b : Nat) (m : Mem) :
    memRead (m.filter fun c => c.1 != a) b = if b = a then memBlank else memRead m b := by
  induction m with
  | nil => simp [memRead]
  | cons c r ih =>
    obtain ⟨k, x⟩ := c
    by_cases hk : k = a <;> by_cases hb : b = a <;> by_cases hkb : k = b <;> simp_all [memRead]

/-- What a word reads as after a store (rule R51): the stored word at the address stored to, the old word elsewhere. It
holds of every list, canonical or not. -/
theorem memRead_memWrite (m : Mem) (a b : Nat) (v : Word) :
    memRead (memWrite m a v) b = if b = a then v else memRead m b := by
  have hf : ∀ c ∈ m.filter (fun c => c.1 != a), c.1 ≠ a := fun c hc => by simpa using (List.mem_filter.mp hc).2
  unfold memWrite
  by_cases hv : v = memBlank
  · subst hv
    simp [memRead_filter]
  · simp only [hv, if_false, memRead_memInsert a b v _ hf, memRead_filter]
    split <;> rfl

/-- A stored word reads back. -/
theorem readWord_writeWord_same (s : State) (a : Addr) (v : Word) : (s.writeWord a v).readWord a = v := by
  simp [State.readWord, State.writeWord, memRead_memWrite]

/-- Every other word reads as before. -/
theorem readWord_writeWord_other (s : State) (a b : Addr) (v : Word) (h : b ≠ a) :
    (s.writeWord a v).readWord b = s.readWord b := by
  have : b.toNat ≠ a.toNat := fun e => h (BitVec.eq_of_toNat_eq e)
  simp [State.readWord, State.writeWord, memRead_memWrite, this]

/-- The canonical form of a list with a head: the head is in place and the rest is canonical. -/
theorem wf_cons (a : Nat) (v : Word) (r : Mem) :
    Memory.wf ((a, v) :: r) = true ↔ a < 4096 ∧ v ≠ memBlank ∧ (∀ c ∈ r, a < c.1) ∧ Memory.wf r = true := by
  simp [Memory.wf, and_assoc]

/-- The canonical form survives taking cells out. -/
theorem wf_filter (p : Nat × Word → Bool) (m : Mem) (h : Memory.wf m = true) : Memory.wf (m.filter p) = true := by
  induction m with
  | nil => simpa using h
  | cons c r ih =>
    obtain ⟨a, v⟩ := c
    obtain ⟨ha, hv, hr, hw⟩ := (wf_cons a v r).mp h
    by_cases hp : p (a, v) = true
    · rw [List.filter_cons_of_pos hp]
      exact (wf_cons a v _).mpr ⟨ha, hv, fun c hc => hr c (List.mem_of_mem_filter hc), ih hw⟩
    · rw [List.filter_cons_of_neg hp]
      exact ih hw

/-- The cells of a list with one inserted. -/
theorem mem_memInsert (a : Nat) (v : Word) (m : Mem) (c : Nat × Word) :
    c ∈ memInsert a v m ↔ c = (a, v) ∨ c ∈ m := by
  induction m with
  | nil => simp [memInsert]
  | cons d r ih =>
    obtain ⟨b, x⟩ := d
    unfold memInsert
    split
    · simp
    · simp only [List.mem_cons, ih]
      tauto

/-- The canonical form survives an insertion of a cell that reads otherwise than an unlisted one. -/
theorem wf_memInsert (a : Nat) (v : Word) (m : Mem) (ha : a < 4096) (hv : v ≠ memBlank) (hm : ∀ c ∈ m, c.1 ≠ a)
    (h : Memory.wf m = true) : Memory.wf (memInsert a v m) = true := by
  induction m with
  | nil => exact (wf_cons a v []).mpr ⟨ha, hv, by simp, rfl⟩
  | cons d r ih =>
    obtain ⟨b, x⟩ := d
    obtain ⟨hb, hx, hr, hw⟩ := (wf_cons b x r).mp h
    have hba : b ≠ a := hm (b, x) (by simp)
    unfold memInsert
    split
    · rename_i hlt
      refine (wf_cons a v _).mpr ⟨ha, hv, fun c hc => ?_, h⟩
      rcases List.mem_cons.mp hc with rfl | hc
      · exact hlt
      · exact lt_trans hlt (hr c hc)
    · refine (wf_cons b x _).mpr ⟨hb, hx, fun c hc => ?_, ih (fun c hc => hm c (by simp [hc])) hw⟩
      rcases (mem_memInsert a v r c).mp hc with rfl | hc
      · show b < a
        omega
      · exact hr c hc

/-- The one memory operation that writes keeps the canonical form. -/
theorem wf_memWrite (m : Mem) (a : Nat) (v : Word) (ha : a < 4096) (h : Memory.wf m = true) :
    Memory.wf (memWrite m a v) = true := by
  unfold memWrite
  have hf := wf_filter (fun c => c.1 != a) m h
  by_cases hv : v = memBlank
  · simpa [hv] using hf
  · simp only [hv, if_false]
    exact wf_memInsert a v _ ha hv (fun c hc => by simpa using (List.mem_filter.mp hc).2) hf

/-- A store by address keeps the canonical form: every 12-bit address is one of memory's. -/
theorem wf_writeWord (s : State) (a : Addr) (v : Word) (h : Memory.wf s.mem = true) :
    Memory.wf (s.writeWord a v).mem = true := wf_memWrite s.mem a.toNat v a.isLt h

/-- Stores in sequence keep the canonical form. -/
theorem wf_writeWords (ws : List (Addr × Word)) (s : State) (h : Memory.wf s.mem = true) :
    Memory.wf (s.writeWords ws).mem = true := by
  induction ws generalizing s with
  | nil => exact h
  | cons w r ih => exact ih (s.writeWord w.1 w.2) (wf_writeWord s w.1 w.2 h)

/-- An address below every listed one reads as an unlisted one. -/
theorem memRead_below (m : Mem) (a : Nat) (h : ∀ c ∈ m, a < c.1) : memRead m a = memBlank := by
  induction m with
  | nil => rfl
  | cons c r ih =>
    have hc := h c (by simp)
    simp only [memRead, Nat.ne_of_gt hc, if_false]
    exact ih fun d hd => h d (by simp [hd])

/-- Canonical memories that read the same are the same data. -/
theorem mem_ext (m m' : Mem) (hm : Memory.wf m = true) (hm' : Memory.wf m' = true)
    (h : ∀ a, memRead m a = memRead m' a) : m = m' := by
  induction m generalizing m' with
  | nil =>
    cases m' with
    | nil => rfl
    | cons c r =>
      have hc := h c.1
      simp only [memRead, if_true] at hc
      exact absurd hc.symm ((wf_cons c.1 c.2 r).mp hm').2.1
  | cons c r ih =>
    obtain ⟨a, v⟩ := c
    obtain ⟨-, hv, hr, hw⟩ := (wf_cons a v r).mp hm
    cases m' with
    | nil =>
      have hc := h a
      simp only [memRead, if_true] at hc
      exact absurd hc hv
    | cons d r' =>
      obtain ⟨b, x⟩ := d
      obtain ⟨-, hx, hr', hw'⟩ := (wf_cons b x r').mp hm'
      have hab : a = b := by
        rcases lt_trichotomy a b with hlt | heq | hlt
        · have ha := h a
          simp only [memRead, if_true, Nat.ne_of_gt hlt, if_false] at ha
          rw [memRead_below r' a fun c hc => lt_trans hlt (hr' c hc)] at ha
          exact absurd ha hv
        · exact heq
        · have hb := h b
          simp only [memRead, if_true, Nat.ne_of_gt hlt, if_false] at hb
          rw [memRead_below r b fun c hc => lt_trans hlt (hr c hc)] at hb
          exact absurd hb.symm hx
      subst hab
      have hvx : v = x := by simpa [memRead] using h a
      subst hvx
      rw [ih r' hw hw' fun k => ?_]
      by_cases hk : a = k
      · subst hk
        rw [memRead_below r a hr, memRead_below r' a hr']
      · simpa [memRead, hk] using h k

/-- The memory of the launch state is canonical. -/
theorem wf_reset : Memory.wf State.reset.mem = true := rfl

end Sys2Proof.Machine
end

