-- ==== Sys2Proof/Laws/Ops.lean ====
section
/-! SUPPORT. For each shared operation, one lemma that says once what it can do, for the proofs to cite instead of
unfolding it. -/

namespace Sys2Proof.Machine

/-- Without the i-bit the operand address is Y and nothing is read (rule R53). -/
@[simp] theorem ea_direct (s : State) (y : Addr) : s.ea false y = some (y, s) := rfl

/-- With the i-bit the address comes from the defer chain (rule R53). -/
theorem ea_deferred (s : State) (y : Addr) :
    s.ea true y = (deferChain s.mem memoryWords y).map fun p => (p.1, { s with mb := p.2 }) := rfl

/-- An effective address changes nothing but MB. -/
theorem ea_some {s s1 : State} {i : Bool} {y e : Addr} (h : s.ea i y = some (e, s1)) : ∃ w, s1 = { s with mb := w } := by
  cases i with
  | false =>
    simp only [ea_direct, Option.some.injEq, Prod.mk.injEq] at h
    exact ⟨s.mb, h.2 ▸ rfl⟩
  | true =>
    rw [ea_deferred, Option.map_eq_some_iff] at h
    obtain ⟨p, -, hp⟩ := h
    exact ⟨p.2, (Prod.mk.inj hp).2.symm⟩

/-- The word at an address is the same after the reads of an effective address. -/
theorem ea_readWord {s s1 : State} {i : Bool} {y e : Addr} (h : s.ea i y = some (e, s1)) (a : Addr) :
    s1.readWord a = s.readWord a := by
  obtain ⟨w, rfl⟩ := ea_some h
  rfl

/-- The state after the operand is read: MB holds it, whatever the chain read before. -/
theorem ea_afterRead {s s1 : State} {i : Bool} {y e : Addr} (h : s.ea i y = some (e, s1)) (a : Addr) :
    s1.afterRead a = s.afterRead a := by
  obtain ⟨w, rfl⟩ := ea_some h
  rfl

/-- The state after a store: the chain's last word has left MB. -/
theorem ea_writeWord {s s1 : State} {i : Bool} {y e : Addr} (h : s.ea i y = some (e, s1)) (a : Addr) (v : Word) :
    s1.writeWord a v = s.writeWord a v := by
  obtain ⟨w, rfl⟩ := ea_some h
  rfl

/-- The chain that never ends leaves the instruction stuck (rule R55). -/
theorem withAddress_none {s : State} {i : Bool} {y : Addr} (h : s.ea i y = none) (k : Addr → State → Out) :
    withAddress i y s k = .fault .deferLoop := by simp only [withAddress, h]

/-- With an effective address the instruction goes on from it. -/
theorem withAddress_some {s s1 : State} {i : Bool} {y e : Addr} (h : s.ea i y = some (e, s1)) (k : Addr → State → Out) :
    withAddress i y s k = k e s1 := by simp only [withAddress, h]

/-- The chain that never ends leaves the instruction stuck (rule R55). -/
theorem withOperand_none {s : State} {i : Bool} {y : Addr} (h : s.ea i y = none) (k : Word → State → Out) :
    withOperand i y s k = .fault .deferLoop := withAddress_none h _

/-- With an effective address the instruction goes on from the word there, which MB holds. -/
theorem withOperand_some {s s1 : State} {i : Bool} {y e : Addr} (h : s.ea i y = some (e, s1)) (k : Word → State → Out) :
    withOperand i y s k = k (s.readWord e) (s.afterRead e) := by
  rw [withOperand, withAddress_some h, ea_readWord h, ea_afterRead h]

/-- What an instruction with an address does, once: it is stuck, or it goes on. -/
theorem withAddress_cases (i : Bool) (y : Addr) (s : State) (k : Addr → State → Out) :
    (s.ea i y = none ∧ withAddress i y s k = .fault .deferLoop) ∨
    ∃ e w, s.ea i y = some (e, { s with mb := w }) ∧ withAddress i y s k = k e { s with mb := w } := by
  cases h : s.ea i y with
  | none => exact .inl ⟨rfl, withAddress_none h k⟩
  | some p =>
    obtain ⟨e, s1⟩ := p
    obtain ⟨w, rfl⟩ := ea_some h
    exact .inr ⟨e, w, rfl, withAddress_some h k⟩

/-- Stores in sequence touch memory and MB alone. -/
theorem writeWords_eq (ws : List (Addr × Word)) (s : State) :
    s.writeWords ws = { s with mem := (s.writeWords ws).mem, mb := (s.writeWords ws).mb } := by
  induction ws generalizing s with
  | nil => rfl
  | cons v r ih =>
    have h := ih (s.writeWord v.1 v.2)
    exact h

/-- Replacing a device's state replaces that state. -/
@[simp] theorem devOf_setDev_same (o : Opt) (d : DevState) (ds : List (Opt × DevState)) : devOf o (setDev o d ds) = d := by
  induction ds with
  | nil => simp [setDev, devOf]
  | cons v r ih =>
    by_cases h : v.1 = o
    · simp [setDev, devOf, h]
    · simp [setDev, devOf, h, ih]

/-- Replacing a device's state leaves the others. -/
theorem devOf_setDev_other {o p : Opt} (h : p ≠ o) (d : DevState) (ds : List (Opt × DevState)) :
    devOf p (setDev o d ds) = devOf p ds := by
  induction ds with
  | nil => simp [setDev, devOf, h.symm]
  | cons v r ih =>
    by_cases ho : v.1 = o
    · simp [setDev, devOf, ho, h.symm]
    · by_cases hp : v.1 = p
      · simp [setDev, devOf, hp, h]
      · simp [setDev, devOf, ho, hp, ih]

/-- Replacing the states of several devices. -/
theorem devOf_foldl_setDev (p : Opt) (f : Opt → DevState) (os : List Opt) (ds : List (Opt × DevState)) :
    devOf p (os.foldl (fun ds q => setDev q (f q) ds) ds) = if p ∈ os then f p else devOf p ds := by
  induction os generalizing ds with
  | nil => simp
  | cons q r ih =>
    rw [List.foldl_cons, ih]
    by_cases hr : p ∈ r
    · simp [hr]
    · by_cases hq : p = q
      · subst hq
        simp [hr]
      · simp [hr, hq, devOf_setDev_other hq]

/-- No word but `sdb` of the symbol generator reaches another device (rules R220, R247). -/
theorem displays_nil {o : Opt} {w : Word} (h : loadsDisplay o w = false) (s : State) : s.displays o w = [] := by
  simp [State.displays, h]

/-- The displays of a transfer are installed displays, and the option is not one of them. -/
theorem mem_displays {s : State} {o p : Opt} {w : Word} (h : p ∈ s.displays o w) :
    loadsDisplay o w = true ∧ p ∈ s.cfg.installed ∧ (p = .type30 ∨ p = .type31) ∧ p ≠ o := by
  unfold State.displays at h
  split at h
  · rename_i hl
    simp only [List.mem_filter, Bool.or_eq_true, beq_iff_eq] at h
    refine ⟨hl, h.1, h.2, ?_⟩
    rintro rfl
    simp only [loadsDisplay, Bool.and_eq_true, beq_iff_eq] at hl
    rcases h.2 with h | h <;> rw [h] at hl <;> exact absurd hl.1.1 (by decide)
  · cases h

/-- What each device's state is after a transfer: the claiming option's is its own, a display of the transfer has a free
one with its old `done`, and no other changes (rules R220, R247). -/
theorem devOf_devsAfter (s : State) (o p : Opt) (w : Word) (d : DevState) :
    devOf p (s.devsAfter o w d) =
      if p = o then d else if p ∈ s.displays o w then s.displayAfter o w p else devOf p s.devs := by
  unfold State.devsAfter
  rw [devOf_foldl_setDev]
  by_cases hd : p ∈ s.displays o w
  · simp [hd, (mem_displays hd).2.2.2]
  · by_cases hp : p = o
    · subst hp
      simp [hd]
    · simp [hd, hp, devOf_setDev_other hp]

/-- But for `sdb`, a transfer changes the state of the claiming option alone (rule R220). -/
theorem devsAfter_eq {o : Opt} {w : Word} (h : loadsDisplay o w = false) (s : State) (d : DevState) :
    s.devsAfter o w d = setDev o d s.devs := by
  simp [State.devsAfter, displays_nil h]

/-- What a device's answer changes (rule R220): IO, the program flags, the devices' states, memory through MB for an option
that moves blocks, and PC by one skip. -/
theorem received_eq (s : State) (o : Opt) (w : Word) (r : DevResult) :
    s.received o w r = { s with
      io := r.io, pf := r.pf, devs := s.devsAfter o w r.dev, pc := if r.skip then s.pc + 1 else s.pc
      mem := if movesBlocks o then (s.writeWords r.writes).mem else s.mem
      mb := if movesBlocks o then (s.writeWords r.writes).mb else s.mb } := by
  unfold State.received
  by_cases hb : movesBlocks o = true
  · simp only [hb, if_true]
    rw [writeWords_eq]
  · simp only [hb, Bool.false_eq_true, if_false]

/-- What a transfer with an option can do: without the wait bit it receives the answer; with it, it receives the answer and
the completion pulse where the answer has reached `done`, and else never completes (rule R221). -/
theorem transfer_next {s t : State} {o : Opt} {w : Word} (h : s.transfer o w = .next t) :
    (iBit w = false ∧ t = s.received o w (s.answer o w)) ∨
    (iBit w = true ∧ (s.answer o w).dev.done = true ∧
      t = s.received o w { s.answer o w with dev := pulsed o (s.answer o w).dev }) := by
  simp only [State.transfer] at h
  split at h
  · split at h
    · injection h with h
      exact .inr ⟨by assumption, by assumption, h.symm⟩
    · cases h
  · injection h with h
    exact .inl ⟨by simpa using ‹¬iBit w = true›, h.symm⟩

/-- What handing a word to its option can do: a transfer, but for the refusals; a drum instruction moves the set-up on. -/
theorem handOver_next {s t : State} {o : Opt} {w : Word} (h : s.handOver o w = .next t) :
    (o ≠ .type23 ∧ s.transfer o w = .next t) ∨
    (o = .type23 ∧ ∃ d, drumNext s.drum w = some d ∧ { s with drum := d }.transfer .type23 w = .next t) := by
  unfold State.handOver at h
  split at h
  · split at h
    · exact .inl ⟨by decide, h⟩
    · cases h
  · split at h
    · exact .inr ⟨rfl, _, by assumption, h⟩
    · cases h
  · cases h
  · exact .inl ⟨by assumption, h⟩

/-- What the wait of `ioh` can do: it receives the outstanding pulse of one installed device (rule R222). -/
theorem ioWait_next {s t : State} (h : s.ioWait = .next t) :
    ∃ o ∈ s.cfg.installed, (devOf o s.devs).done = true ∧
      t = { s with devs := setDev o (pulsed o (devOf o s.devs)) s.devs } := by
  unfold State.ioWait at h
  split at h
  · cases h
  · split at h
    · cases h
    · rename_i o rest hp
      injection h with h
      set p := (o :: rest)[Config.pulseTaken s.devs % (rest.length + 1)]?.getD o with hpe
      have hm : p ∈ s.pulses := by
        rw [hp, hpe]
        cases hg : (o :: rest)[Config.pulseTaken s.devs % (rest.length + 1)]? with
        | none => simp
        | some q => exact List.mem_of_getElem? hg
      exact ⟨p, (List.mem_filter.mp hm).1, (List.mem_filter.mp hm).2, h.symm⟩

/-- With no pulse outstanding and an option installed, `ioh` is stuck (rule R222). -/
theorem ioWait_stuck {s : State} (hi : s.cfg.installed ≠ []) (h : s.pulses = []) : s.ioWait = .fault .inOutWait := by
  simp [State.ioWait, hi, h]

/-- What an in-out transfer instruction can do (rule R220): the wait, or the hand-over to its one claimant. -/
theorem inOut_next {s t : State} {w : Word} (h : s.inOut w = .next t) :
    (w = 0o730000 ∧ s.ioWait = .next t) ∨ ∃ o, claimants s.cfg w = [o] ∧ s.handOver o w = .next t := by
  unfold State.inOut at h
  split at h
  · exact .inl ⟨by assumption, h⟩
  · split at h
    · cases h
    · exact .inr ⟨_, by assumption, h⟩
    · cases h

/-- The distance of a shift is the number of the nine bits of its count mask that are 1 (rules R14, R86). -/
theorem popcount_eq_countP (mask : BitVec 9) : popcount mask = (List.range 9).countP fun k => mask.getLsbD k := by
  simp only [popcount, onesBelow, List.range, List.range.loop, List.countP_cons, List.countP_nil]
  cases mask.getLsbD 0 <;> cases mask.getLsbD 1 <;> cases mask.getLsbD 2 <;> cases mask.getLsbD 3 <;>
    cases mask.getLsbD 4 <;> cases mask.getLsbD 5 <;> cases mask.getLsbD 6 <;> cases mask.getLsbD 7 <;>
    cases mask.getLsbD 8 <;> rfl

/-- Where a chain of `xct` leads: to the word at some address, which is another instruction and stands in MB (R140). -/
theorem xctTarget_ok (fuel : Nat) {i : Bool} {y : Addr} {s s1 : State} {x : Instr}
    (h : xctTarget fuel i y s = .ok (x, s1)) :
    ∃ e, x = decode s.cfg (s.readWord e) ∧ s1 = s.afterRead e ∧ ∀ j z, x ≠ .xct j z := by
  induction fuel generalizing i y s with
  | zero => cases h
  | succ n ih =>
    unfold xctTarget at h
    split at h
    · cases h
    · rename_i e s2 he
      obtain ⟨w, rfl⟩ := ea_some he
      split at h
      · obtain ⟨e', hx, hs, hne⟩ := ih h
        exact ⟨e', hx, hs, hne⟩
      · rename_i hne
        injection h with h
        obtain ⟨rfl, rfl⟩ := Prod.mk.inj h
        exact ⟨e, rfl, rfl, fun j z hj => hne j z hj⟩

/-- What a step can do: it takes a break between two instructions, or it runs the instruction at PC (rules R27, R365). -/
theorem step_next {s t : State} (h : step s = .next t) :
    s.run = true ∧
      ((∃ b, s.breakDue = some b ∧ t = s.takeBreak b) ∨
        (s.breakDue = none ∧ exec (decode s.cfg (s.readWord s.pc)) s.fetched = .next t)) := by
  unfold step at h
  split at h
  · refine ⟨by assumption, ?_⟩
    split at h
    · injection h with h
      exact .inl ⟨_, by assumption, h.symm⟩
    · exact .inr ⟨by assumption, h⟩
  · cases h

/-- An instruction that `xct` performs does what `exec` does with it. -/
theorem performed_eq_exec (x : Instr) (s : State) (h : ∀ j z, x ≠ .xct j z) : performed x s = exec x s := by
  cases x with
  | xct j z => exact absurd rfl (h j z)
  | _ => rfl

end Sys2Proof.Machine
end

