-- ==== Sys2Proof/Tests/Slice0.lean ====
section
/-! SUPPORT. Tests: an ill-formed term for every check of WellFormed, the decoding of every constructor from words written
out from the spec's encoding tables, single steps from 95_test_vectors.md, and for every statement with hypotheses a
witness that meets them. -/

namespace Sys2Proof.Tests

open Sys2Proof.Machine

/-- The base configuration with the Type 10 option. -/
def withMulDiv : Config := { launchConfig with mulDiv := true }

/-- A PDP-1D with no in-out option. -/
def onPdp1d : Config := { launchConfig with pdp1d := true }

/-- The base configuration with one in-out option. -/
def having (o : Opt) : Config := { launchConfig with devices := [o] }

/-- Running at 1000 with a word there and a word at 2000. -/
def at1000 (w m : Word) : State :=
  { State.reset with pc := 0o1000, mem := memWrite (memWrite [] 0o1000 w) 0o2000 m }

/-- A state with an AC and a word at 2000. -/
def pair (a b : Word) : State := { at1000 0 b with ac := a }

/-- The launch state with one in-out option installed. -/
def fitted (o : Opt) : State := { State.reset with cfg := having o }

/-- The step answers a next state with a property. -/
def goesTo (o : Out) (p : State → Bool) : Bool :=
  match o with
  | .next t => p t
  | .fault _ => false
  | .refused _ => false

/-- The step ends in a fault. -/
def faults (o : Out) (f : Fault) : Bool :=
  match o with
  | .next _ => false
  | .fault g => g == f
  | .refused _ => false

/-- The step is refused. -/
def refuses (o : Out) (r : Refusal) : Bool :=
  match o with
  | .next _ => false
  | .fault _ => false
  | .refused q => q == r

/-- Rule R97: `1s` to `9s` are 1, 3, 7, 17, 37, 77, 177, 377, 777 and count n places. -/
theorem test_macro_counts :
    [1, 2, 3, 4, 5, 6, 7, 8, 9].map (fun n => (macroCount n).toNat) =
        [0o1, 0o3, 0o7, 0o17, 0o37, 0o77, 0o177, 0o377, 0o777] ∧
      [1, 2, 3, 4, 5, 6, 7, 8, 9].all (fun n => popcount (macroCount n) == n) = true := by decide

/-- Rules R97, R99, R249: the listed code plus `i` is what Macro assembles for `rpa`, `rpb`, `ppb`, `tyo`, `dpy`. -/
theorem test_macro_waiting_forms :
    [Instr.rpa false, .rpb false, .ppb false, .tyo false, .dpy false 0].map (fun x => encode x + macroI) =
        [0o730001, 0o730002, 0o730006, 0o730003, 0o730007] ∧
      [Instr.rpa true, .rpb true, .ppb true, .tyo true, .dpy true 0].map encode =
        [0o730001, 0o730002, 0o730006, 0o730003, 0o730007] := by decide

/-- Rule R7: the steps where the Type 10 option is installed. -/
theorem test_wf_muldiv :
    [.mus false 0, .dis true 5].all (fun i : Instr => !wellFormed withMulDiv i) = true := by decide

/-- Rule R7: `mul` and `div` where it is not. -/
theorem test_wf_no_muldiv :
    [.mul false 0, .div false 0].all (fun i : Instr => !wellFormed launchConfig i) = true := by decide

/-- Rule R94: the four codes that the PDP-1D assigns. -/
theorem test_wf_spare_on_pdp1d :
    [.spare12 0, .spare14 0, .spare36 0, .spare74 0].all (fun i : Instr => !wellFormed onPdp1d i) = true := by decide

/-- Rule R94: PDP-1D instructions on a PDP-1. -/
theorem test_wf_pdp1d_only :
    [.sni, .szi, .lia, .lai, .swp, .cmi, .lch false 0, .dch false 0, .tad false 0, .special 0, .ifi, .idc, .ida,
      .scm, .sci, .scf, .szl, .cll, .cml].all (fun i : Instr => !wellFormed launchConfig i) = true := by decide

/-- A group word that a row names. -/
theorem test_wf_named_words :
    (wellFormed launchConfig (.skp 0o100) || wellFormed onPdp1d (.skp 0o4000) ||
      wellFormed launchConfig (.opr 0o200) ||
      wellFormed onPdp1d (.opr 0o20) || wellFormed onPdp1d (.special 0o2000)) = false := by decide

/-- Rules R163, R185, R187: the number 0 is no row of its own. -/
theorem test_wf_zero_numbers :
    [.szf false 0, .szs true 0, .clf 0].all (fun i : Instr => !wellFormed launchConfig i) = true := by decide

/-- Rules R98, R213: `sft` is the bare code, and the bare code is `sft`. -/
theorem test_wf_shift :
    [.sft 0o1000, .sftNoRegister false false 0].all (fun i : Instr => !wellFormed launchConfig i) = true := by decide

/-- The words of `ioh` and of an installed option's row are not `iot`. -/
theorem test_wf_iot :
    (wellFormed launchConfig (.iot true 0) || wellFormed (having .reader) (.iot false 0o0001) ||
      wellFormed (having .reader) (.iot true 0o0002)) = false := by decide

/-- Rule R220: no row of an option that is not installed. -/
theorem test_wf_no_option :
    [.rpa false, .rpb false, .rrb false, .ppa false, .ppb false, .tyo false, .tyi false, .esm false, .lsm false,
      .cbs false, .dsc false 1 1, .asc false 1 1, .isb false 1 1, .cac false, .swc false 1, .sia false,
      .sdf false, .ric false, .shr false, .dpy false 1, .gpl false, .gpr false, .glf false, .gsp false,
      .sdb false, .dpp false, .lag false, .pac false, .rac false, .rbc false, .rcc false, .msm false,
      .mcs false, .mcb false, .mwc false, .mrc false, .muf false 1 1, .mic false 1 1, .mrf false 1,
      .mri false 1 1, .mes false 1, .mel false 1, .inr false 1 1, .ccr false 1, .sfc false, .rsr false,
      .crf false, .cpm false, .dur false 1, .mtf false 1, .cgo false, .rcb false, .cad false, .scv false 1,
      .icv false, .cirbuf false, .lpb false, .pas false 1, .dia false 1, .dwc false 1, .dcl false 1,
      .dba false, .dra false, .rch false, .rcr630 false, .tcc false, .tcb false, .rrc false, .ssb false,
      .rsc false, .iot11 false, .erg false, .lrg false, .lrm false, .erm false, .rnm false, .rsm false,
      .rck false 1, .ctb false 1, .rro false 1, .rri false 1, .gcf false].all
      (fun i : Instr => !wellFormed launchConfig i) = true := by decide

/-- 90_conflicts.md C10: one name for the class 72u067. -/
theorem test_wf_type52_name :
    (wellFormed (having .type52) (.inr false 2 0) || wellFormed (having .type52) (.ccr false 2) ||
      wellFormed { having .type52 with type52Name := .ccr } (.mrf false 2)) = false := by decide

/-- Rule R220: 722061 and 722062 are `dba` and `dra`. -/
theorem test_wf_drum_digits :
    [.dia false 0o20, .dwc true 0o20].all (fun i : Instr => !wellFormed (having .type23) i) = true := by decide

/-- 90_conflicts.md C5: `dpp` and `dpy` with intensity 4. -/
theorem test_wf_two_claimants :
    wellFormed { launchConfig with devices := [.type30, .type31] } (.dpp false) = false := by decide

/-- Both displays, the rows of Type 30 narrowed by those of Type 31 (rule R248). -/
def narrowedDisplays : Config := { launchConfig with devices := [.type30, .type31], narrowed := [(.type30, .type31)] }

/-- Rule R248, 90_conflicts.md C5: 720407 is then `dpp` alone, and the other intensities stay with `dpy`. -/
theorem test_narrowed_displays :
    decode narrowedDisplays 0o720407 = .dpp false ∧ wellFormed narrowedDisplays (.dpy false 4) = false ∧
      decode narrowedDisplays 0o720307 = .dpy false 3 ∧ claimants narrowedDisplays 0o720307 = [.type30] := by decide

/-- Rules R82, R85: the operation code is bits 0 to 4, the i-bit bit 5. -/
theorem test_decode_memory :
    [(0o021234, .and false 0o1234), (0o057777, .ior true 0o7777), (0o060001, .xor false 1),
      (0o112000, .xct true 0o2000), (0o202000, .lac false 0o2000), (0o232000, .lio true 0o2000),
      (0o240100, .dac false 0o100), (0o272000, .dap true 0o2000), (0o302000, .dip false 0o2000),
      (0o332000, .dio true 0o2000), (0o342000, .dzm false 0o2000), (0o402000, .add false 0o2000),
      (0o432000, .sub true 0o2000), (0o442000, .idx false 0o2000), (0o472000, .isp true 0o2000),
      (0o502000, .sad false 0o2000), (0o532000, .sas true 0o2000), (0o542000, .mus false 0o2000),
      (0o572000, .dis true 0o2000), (0o602000, .jmp false 0o2000), (0o632000, .jsp true 0o2000),
      (0o161234, .cal 0o1234), (0o172000, .jda 0o2000), (0o700005, .law 5), (0o710005, .lawNeg 5)].all
      (fun p : Word × Instr => decode launchConfig p.1 == p.2) = true := by decide

/-- Rule R7. -/
theorem test_decode_muldiv :
    [(0o542000, .mul false 0o2000), (0o572000, .div true 0o2000)].all
      (fun p : Word × Instr => decode withMulDiv p.1 == p.2) = true := by decide

/-- Rule R92. -/
theorem test_decode_spare :
    [(0o000000, .spare00 0), (0o012345, .spare00 0o12345), (0o120000, .spare12 0), (0o140000, .spare14 0),
      (0o370000, .spare36 0o10000), (0o750000, .spare74 0o10000)].all
      (fun p : Word × Instr => decode launchConfig p.1 == p.2) = true := by decide

/-- Rule R88. -/
theorem test_decode_skip :
    [(0o640400, .sma false), (0o650200, .spa true), (0o642000, .spi false), (0o650100, .sza true),
      (0o641000, .szo false), (0o640002, .szf false 2), (0o650040, .szs true 4), (0o640000, .skp 0),
      (0o640500, .skp 0o500), (0o654000, .skp 0o14000)].all
      (fun p : Word × Instr => decode launchConfig p.1 == p.2) = true := by decide

/-- Rule R89. -/
theorem test_decode_shift :
    [(0o661007, .ral 7), (0o671777, .rar 0o777), (0o663003, .rcl 3), (0o673525, .rcr 0o525), (0o662001, .ril 1),
      (0o672001, .rir 1), (0o665001, .sal 1), (0o675007, .sar 7), (0o667003, .scl 3), (0o677003, .scr 3),
      (0o666001, .sil 1), (0o676001, .sir 1), (0o660000, .sft 0),
      (0o674525, .sftNoRegister true true 0o525)].all
      (fun p : Word × Instr => decode launchConfig p.1 == p.2) = true := by decide

/-- Rule R87. -/
theorem test_decode_operate :
    [(0o760000, .nop), (0o760200, .cla), (0o764000, .cli), (0o761000, .cma), (0o760400, .hlt), (0o760100, .lap),
      (0o762200, .lat true), (0o762000, .lat false), (0o760003, .clf 3), (0o760015, .stf 5),
      (0o761200, .opr 0o1200), (0o770000, .opr 0o10000)].all
      (fun p : Word × Instr => decode launchConfig p.1 == p.2) = true := by decide

/-- Rules R94, R323 to R338. -/
theorem test_decode_pdp1d :
    [(0o644000, .sni), (0o654000, .szi), (0o760020, .lia), (0o760040, .lai), (0o760060, .swp), (0o770000, .cmi),
      (0o132000, .lch true 0o2000), (0o142000, .dch false 0o2000), (0o362000, .tad false 0o2000),
      (0o742000, .ifi), (0o741000, .idc), (0o740400, .ida), (0o740200, .scm), (0o740100, .sci),
      (0o740040, .scf), (0o740020, .szl), (0o740010, .cll), (0o740004, .cml), (0o743000, .special 0o3000)].all
      (fun p : Word × Instr => decode onPdp1d p.1 == p.2) = true := by decide

/-- Rules R91(h), R222. -/
theorem test_decode_ioh :
    [(0o730000, .ioh), (0o720000, .iot false 0), (0o730007, .iot true 7)].all
      (fun p : Word × Instr => decode launchConfig p.1 == p.2) = true := by decide

/-- Rules R223 to R248: the example words. -/
theorem test_decode_standard :
    [(Opt.reader, 0o720001, .rpa false), (Opt.reader, 0o730002, .rpb true), (Opt.reader, 0o720030, .rrb false),
      (Opt.punch, 0o720005, .ppa false), (Opt.punch, 0o730006, .ppb true),
      (Opt.typewriter, 0o730003, .tyo true), (Opt.typewriter, 0o720004, .tyi false),
      (Opt.type120, 0o720055, .esm false), (Opt.type120, 0o720054, .lsm false),
      (Opt.type120, 0o720056, .cbs false), (Opt.type120, 0o720350, .dsc false 0 3),
      (Opt.type120, 0o720351, .asc false 0 3), (Opt.type120, 0o721052, .isb false 1 0),
      (Opt.type120, 0o720053, .cac false), (Opt.type131, 0o721046, .swc false 1),
      (Opt.type131, 0o720346, .sia false), (Opt.type131, 0o720146, .sdf false),
      (Opt.type131, 0o720366, .ric false), (Opt.type131, 0o720446, .shr false),
      (Opt.type30, 0o720307, .dpy false 3), (Opt.type33, 0o722027, .gpl false),
      (Opt.type33, 0o720027, .gpr false), (Opt.type33, 0o722026, .glf false),
      (Opt.type33, 0o720026, .gsp false), (Opt.type33, 0o722007, .sdb false),
      (Opt.type31, 0o720407, .dpp false)].all
      (fun p : Opt × Word × Instr => decode (having p.1) p.2.1 == p.2.2) = true := by decide

/-- Rules R260 to R304: the example words. -/
theorem test_decode_optional :
    [(Opt.type40, 0o720044, .lag false), (Opt.type40, 0o720043, .pac false), (Opt.type421, 0o720041, .rac false),
      (Opt.type421, 0o720042, .rbc false), (Opt.type421, 0o720032, .rcc false),
      (Opt.type51, 0o720073, .msm false), (Opt.type51, 0o720034, .mcs false),
      (Opt.type51, 0o720070, .mcb false), (Opt.type51, 0o720071, .mwc false),
      (Opt.type51, 0o720072, .mrc false), (Opt.type52, 0o721276, .muf false 1 2),
      (Opt.type52, 0o721375, .mic false 1 3), (Opt.type52, 0o722067, .mrf false 2),
      (Opt.type52, 0o721066, .mri false 1 0), (Opt.type52, 0o720035, .mes false 0),
      (Opt.type52, 0o720036, .mel false 0), (Opt.type52, 0o721167, .inr false 1 1),
      (Opt.type510, 0o720072, .sfc false), (Opt.type510, 0o720172, .rsr false),
      (Opt.type510, 0o720272, .crf false), (Opt.type510, 0o720472, .cpm false),
      (Opt.type510, 0o721270, .dur false 0o12), (Opt.type510, 0o730171, .mtf true 1),
      (Opt.type510, 0o720073, .cgo false), (Opt.type138, 0o720031, .rcb false),
      (Opt.type138, 0o720040, .cad false), (Opt.type138, 0o721747, .scv false 0o17),
      (Opt.type138, 0o720060, .icv false), (Opt.type64, 0o722045, .cirbuf false),
      (Opt.type64, 0o720045, .lpb false), (Opt.type64, 0o721245, .pas false 2),
      (Opt.type23, 0o720061, .dia false 0), (Opt.type23, 0o720162, .dwc false 1),
      (Opt.type23, 0o720063, .dcl false 0), (Opt.type23, 0o722061, .dba false),
      (Opt.type23, 0o722062, .dra false), (Opt.type630, 0o720022, .rch false),
      (Opt.type630, 0o721022, .rcr630 false), (Opt.type630, 0o725022, .tcc false),
      (Opt.type630, 0o724022, .tcb false), (Opt.type630, 0o720122, .rrc false),
      (Opt.type630, 0o724122, .ssb false), (Opt.type630, 0o721122, .rsc false),
      (Opt.spacewar, 0o720011, .iot11 false)].all
      (fun p : Opt × Word × Instr => decode (having p.1) p.2.1 == p.2.2) = true := by decide

/-- Rule R277, 90_conflicts.md C10. -/
theorem test_decode_ccr :
    [(0o720067, .ccr false 0)].all
      (fun p : Word × Instr => decode { having .type52 with type52Name := .ccr } p.1 == p.2) = true := by decide

/-- Rules R339 to R349. -/
theorem test_decode_pdp1d_inout :
    [(0o720011, .erg false), (0o720010, .lrg false), (0o720064, .lrm false), (0o720065, .erm false),
      (0o720066, .rnm false), (0o720067, .rsm false), (0o720132, .rck false 1), (0o720135, .ctb false 1),
      (0o720117, .rro false 1), (0o720137, .rri false 1), (0o720127, .gcf false)].all
      (fun p : Word × Instr => decode { onPdp1d with devices := [.pdp1dInOut] } p.1 == p.2) = true := by decide

/-- 90_conflicts.md C10: the class has three names. -/
theorem test_type52_names :
    claimedNames (having .type52) 0o722067 = ["mrf", "inr", "ccr"] := by decide

/-- 95_test_vectors.md section 2.3. -/
theorem test_step_add :
    goesTo (step { at1000 0o402000 0o777776 with ac := 0o400000 }) (fun t => t.ac == 0o377777 && t.ov && t.pc ==
      0o1001) = true := by decide

/-- 95_test_vectors.md section 2.3: never minus zero, OV sticky. -/
theorem test_step_add_zero :
    goesTo (step { at1000 0o402000 0o777772 with ac := 5, ov := true }) (fun t => t.ac == 0 && t.ov) = true :=
    by decide

/-- 95_test_vectors.md section 2.3: the one way to minus zero. -/
theorem test_step_sub :
    goesTo (step { at1000 0o422000 0o0 with ac := 0o777777 }) (fun t => t.ac == 0o777777 && !t.ov) = true := by decide

/-- 95_test_vectors.md section 2.3. -/
theorem test_step_sub_over :
    goesTo (step { at1000 0o422000 0o000001 with ac := 0o400000 }) (fun t => t.ac == 0o377777 && t.ov) = true :=
    by decide

/-- 95_test_vectors.md section 2.4. -/
theorem test_step_logic :
    goesTo (step { at1000 0o022000 0o770077 with ac := 0o707070 }) (fun t => t.ac == 0o700070) = true := by decide

/-- 95_test_vectors.md section 2.4. -/
theorem test_step_xor :
    goesTo (step { at1000 0o062000 0o770077 with ac := 0o707070 }) (fun t => t.ac == 0o077007) = true := by decide

/-- 95_test_vectors.md section 2.4. -/
theorem test_step_ior :
    goesTo (step { at1000 0o042000 0o770077 with ac := 0o707070 }) (fun t => t.ac == 0o777077) = true := by decide

/-- 95_test_vectors.md section 2.4. -/
theorem test_step_dap :
    goesTo (step { at1000 0o262000 0o765432 with ac := 0o123456 }) (fun t => memRead t.mem 0o2000 == 0o763456 &&
      t.ac == 0o123456) = true := by decide

/-- 95_test_vectors.md section 2.4. -/
theorem test_step_dip :
    goesTo (step { at1000 0o302000 0o765432 with ac := 0o123456 }) (fun t => memRead t.mem 0o2000 == 0o125432) =
      true := by decide

/-- 95_test_vectors.md section 2.4, and the canonical form. -/
theorem test_step_dzm :
    goesTo (step (at1000 0o342000 0o777777)) (fun t => t.mem == [(0o1000, 0o342000)]) = true := by decide

/-- 95_test_vectors.md section 2.4. -/
theorem test_step_lio :
    goesTo (step (at1000 0o222000 0o112233)) (fun t => t.io == 0o112233 && t.ac == 0) = true := by decide

/-- 95_test_vectors.md section 2.4. -/
theorem test_step_dio :
    goesTo (step { at1000 0o322000 0o0 with io := 0o654321 }) (fun t => memRead t.mem 0o2000 == 0o654321) = true :=
    by decide

/-- 95_test_vectors.md section 2.4. -/
theorem test_step_law_neg :
    goesTo (step (at1000 0o710005 0o0)) (fun t => t.ac == 0o777772) = true := by decide

/-- 95_test_vectors.md section 2.5. -/
theorem test_step_idx :
    goesTo (step (at1000 0o442000 0o777776)) (fun t => t.ac == 0 && memRead t.mem 0o2000 == 0) = true := by decide

/-- 95_test_vectors.md section 2.5. -/
theorem test_step_isp :
    goesTo (step (at1000 0o462000 0o777775)) (fun t => t.ac == 0o777776 && t.pc == 0o1001) = true := by decide

/-- 95_test_vectors.md section 2.5. -/
theorem test_step_isp_skips :
    goesTo (step (at1000 0o462000 0o777776)) (fun t => t.pc == 0o1002) = true := by decide

/-- 95_test_vectors.md section 2.5: the zeros differ. -/
theorem test_step_sad :
    goesTo (step (at1000 0o502000 0o777777)) (fun t => t.pc == 0o1002) = true := by decide

/-- 95_test_vectors.md section 2.5. -/
theorem test_step_sas :
    goesTo (step { at1000 0o522000 0o000005 with ac := 5 }) (fun t => t.pc == 0o1002) = true := by decide

/-- 95_test_vectors.md section 2.6. -/
theorem test_step_jsp :
    goesTo (step { at1000 0o622000 0o0 with ov := true }) (fun t => t.ac == 0o401001 && t.pc == 0o2000 && t.ov) =
      true := by decide

/-- 95_test_vectors.md section 2.6. -/
theorem test_step_jda :
    goesTo (step { at1000 0o177777 0o0 with ac := 0o111111 }) (fun t => memRead t.mem 0o7777 == 0o111111 && t.ac
      == 0o001001 && t.pc == 0) = true := by decide

/-- 95_test_vectors.md section 2.6. -/
theorem test_step_cal :
    goesTo (step { at1000 0o161234 0o0 with ac := 0o222222 }) (fun t => memRead t.mem 0o100 == 0o222222 && t.ac ==
      0o001001 && t.pc == 0o101) = true := by decide

/-- 95_test_vectors.md section 2.6: the skip in place. -/
theorem test_step_xct_skip :
    goesTo (step (at1000 0o102000 0o640100)) (fun t => t.pc == 0o1002) = true := by decide

/-- 95_test_vectors.md section 2.6. -/
theorem test_step_xct_jsp :
    goesTo (step (at1000 0o102000 0o623000)) (fun t => t.ac == 0o001001 && t.pc == 0o3000) = true := by decide

/-- 95_test_vectors.md section 2.6: an `xct` of itself never completes. -/
theorem test_step_xct_loop : faults (step (at1000 0o101000 0)) .xctLoop = true := by decide +kernel

/-- 95_test_vectors.md section 2.2: a circular chain never completes. -/
theorem test_step_defer_loop : faults (step (at1000 0o212000 0o012000)) .deferLoop = true :=
    by decide +kernel

/-- 95_test_vectors.md section 2.2. -/
theorem test_step_defer_chain :
    goesTo (step { at1000 0o212000 0o772345 with mem := [(0o1000, 0o212000), (0o2000, 0o772345), (0o2345,
      0o003000), (0o3000, 0o111111)] }) (fun t => t.ac == 0o111111 && t.mb == 0o111111) = true := by decide

/-- 95_test_vectors.md section 2.7. -/
theorem test_step_mus :
    goesTo (step { at1000 0o542000 0o000007 with ac := 5, io := 3 }) (fun t => t.ac == 6 && t.io == 1) = true :=
    by decide

/-- 95_test_vectors.md section 2.7. -/
theorem test_step_dis :
    goesTo (step { at1000 0o562000 0o000005 with ac := 0o777775 }) (fun t => t.ac == 1 && t.io == 0) = true :=
    by decide

/-- 95_test_vectors.md section 2.8. -/
theorem test_step_mul :
    goesTo (step { at1000 0o542000 0o400000 with ac := 0o377777, cfg := withMulDiv }) (fun t => t.ac == 0o400001
      && t.io == 0o777775) = true := by decide

/-- 95_test_vectors.md section 2.8. -/
theorem test_step_div :
    goesTo (step { at1000 0o562000 0o000006 with ac := 0o777777, io := 0o777727, cfg := withMulDiv }) (fun t =>
      t.ac == 0o777774 && t.io == 0o777775 && t.pc == 0o1002) = true := by decide

/-- 95_test_vectors.md section 2.8. -/
theorem test_step_div_zero :
    goesTo (step { at1000 0o562000 0o777777 with io := 0o50, cfg := withMulDiv }) (fun t => t.ac == 0 && t.io ==
      0o50 && t.pc == 0o1001) = true := by decide

/-- Rule R172. -/
theorem test_step_hlt_union :
    goesTo (step (at1000 0o760417 0o0)) (fun t => t.pf == Six.full && !t.run && t.pc == 0o1001) = true := by decide

/-- Rule R172. -/
theorem test_step_cla_cma :
    goesTo (step { at1000 0o761200 0o0 with ac := 5 }) (fun t => t.ac == 0o777777) = true := by decide

/-- Rule R167 with P_LAP_CLEARS false. -/
theorem test_step_lap :
    goesTo (step { at1000 0o760100 0o0 with ac := 0o700000 }) (fun t => t.ac == 0o701001) = true := by decide

/-- Rule R167 with P_LAP_CLEARS true. -/
theorem test_step_lap_clears :
    goesTo (step { at1000 0o760100 0o0 with ac := 0o700000, cfg := { launchConfig with lapClears := true } }) (fun
      t => t.ac == 0o001001) = true := by decide

/-- Rule R168. -/
theorem test_step_lat :
    goesTo (step { at1000 0o762000 0o0 with ac := 7, tw := 0o707070 }) (fun t => t.ac == 0o707077) = true := by decide

/-- Rule R327. -/
theorem test_step_swp :
    goesTo (step { at1000 0o760060 0o0 with ac := 1, io := 2, cfg := onPdp1d }) (fun t => t.ac == 2 && t.io == 1)
      = true := by decide

/-- Rule R189. -/
theorem test_step_szo_inverted :
    goesTo (step { at1000 0o651000 0o0 with ov := true }) (fun t => t.pc == 0o1002 && !t.ov) = true := by decide

/-- Rule R186. -/
theorem test_step_szo :
    goesTo (step { at1000 0o641000 0o0 with ov := true }) (fun t => t.pc == 0o1001 && !t.ov) = true := by decide

/-- Rule R190. -/
theorem test_step_skip_union :
    goesTo (step { at1000 0o640500 0o0 with ac := 1 }) (fun t => t.pc == 0o1001) = true := by decide

/-- Rule R185. -/
theorem test_step_szf_seven :
    goesTo (step { at1000 0o640007 0o0 with pf := { Six.clear with six := true } }) (fun t => t.pc == 0o1001) = true :=
    by decide

/-- Rule R201. -/
theorem test_step_ral :
    goesTo (step { at1000 0o661777 0o0 with ac := 0o400001 }) (fun t => t.ac == 0o001400) = true := by decide

/-- Rule R204. -/
theorem test_step_rcr :
    goesTo (step { at1000 0o673001 0o0 with ac := 0o400001, io := 0o200003 }) (fun t => t.ac == 0o600000 && t.io
      == 0o500001) = true := by decide

/-- Rule R209. -/
theorem test_step_scl :
    goesTo (step { at1000 0o667003 0o0 with ac := 1, io := 0o600000 }) (fun t => t.ac == 7 && t.io == 0) = true :=
    by decide

/-- Rule R208. -/
theorem test_step_sar :
    goesTo (step { at1000 0o675001 0o0 with ac := 0o777776 }) (fun t => t.ac == 0o777777) = true := by decide

/-- Rule R210. -/
theorem test_step_scr :
    goesTo (step { at1000 0o677003 0o0 with ac := 0o777776, io := 7 }) (fun t => t.ac == 0o777777 && t.io ==
      0o400001) = true := by decide

/-- Rule R211. -/
theorem test_step_sil :
    goesTo (step { at1000 0o666001 0o0 with io := 0o400001 }) (fun t => t.io == 0o400003) = true := by decide

/-- Rule R23. -/
theorem test_step_wraps :
    goesTo (step { State.reset with pc := 0o7777, mem := [(0o7777, 0o760000)] }) (fun t => t.pc == 0) = true :=
    by decide

/-- Rule R220: the base configuration refuses every in-out word. -/
theorem test_step_no_device : refuses (step (at1000 0o720001 0)) .noInstalledDevice = true := by decide

/-- 90_conflicts.md C5: 720407 with both displays. -/
theorem test_step_two_options :
    refuses (step { at1000 0o720407 0 with cfg := { launchConfig with devices := [.type30, .type31] } })
      .twoOptionsClaim = true := by decide

/-- Rule R384: `dwc` with no `dia` before it. -/
theorem test_step_drum_order :
    refuses (step { at1000 0o720062 0 with cfg := having .type23 }) .drumOutOfOrder = true := by decide

/-- The instruction placed at PC is the one the next step runs. -/
theorem test_fetch_word :
    goesTo (step (State.reset.withFetchWord 18 0o710005)) (fun t => t.ac == 0o777772 && t.pc == 1) = true := by decide

/-- Witness for DecodeEncodeAgree. -/
theorem witness_DecodeEncodeAgree :
    wellFormed launchConfig (.add true 0o7777) = true := by decide

/-- Witness for StepRunsDecoded. -/
theorem witness_StepRunsDecoded :
    (at1000 0o402000 5).run = true ∧ (at1000 0o402000 5).breakDue = none ∧
      decode (at1000 0o402000 5).cfg ((at1000 0o402000 5).readWord (at1000 0o402000 5).pc) = .add false 0o2000 ∧
      State.reset.cfg.breaks = false ∧ Opt.type120 ∉ State.reset.cfg.installed :=
    ⟨rfl, rfl, by decide, rfl, by decide⟩

/-- Witness for RunStateRule. -/
theorem witness_RunStateRule :
    (exec .nop State.reset = .next State.reset ∧ State.reset.run = true) ∧ (State.halt State.reset).run = false :=
    ⟨⟨rfl, rfl⟩, rfl⟩

/-- Witness for MemoryReadsLatestWrite, at both ends of memory. -/
theorem witness_MemoryReadsLatestWrite :
    (0o7777 : Addr) ≠ 0 := by decide

/-- Witness for StepKeepsMemoryCanonical and ConsoleInputsConstant. -/
theorem witness_StepKeepsMemoryCanonical :
    Memory.wf (at1000 0o242000 7).mem = true ∧ goesTo (step (at1000 0o242000 7)) (fun t => Memory.wf t.mem) = true :=
    by decide

/-- Witness for CircularDeferNeverEnds and DeferLoopSticks. -/
theorem witness_CircularDefer :
    State.ea (at1000 0 0o012000) true 0o2000 = none := by decide +kernel

/-- Witness for DeferLoopSticks. -/
theorem witness_DeferLoopSticks :
    deferParts (.lac true 0o2000) = some (true, 0o2000) := by decide

/-- The one hypothesis, direct and deferred, of LogicInstructions, LoadInstructions, DepositInstructions, PartDeposits,
IndexInstructions, CompareInstructions, JmpSetsProgramCounter, SavingJumps, XctExecutesTheWord, MultiplyProduct and
DivideStep. -/
theorem witness_ea :
    (at1000 0 0o003000).ea false 0o2000 = some (0o2000, at1000 0 0o003000) ∧
      ((at1000 0 0o003000).ea true 0o2000).map (·.1) = some 0o3000 := by decide

/-- The hypothesis of every memory-reference statement, through two words. -/
theorem witness_ea_chain :
    (({ State.reset with mem := [(0o2000, 0o772345), (0o2345, 0o003000)] } : State).ea true 0o2000).map (·.1) =
      some 0o3000 := by decide

/-- The five clauses of XctActsInPlace, each by a word at the effective address. -/
theorem witness_XctActsInPlace :
    (∀ w : Word, (at1000 0 w).ea false 0o2000 = some (0o2000, at1000 0 w)) ∧
      decode launchConfig ((at1000 0 0o700077).readWord 0o2000) = .law 0o77 ∧
      decode launchConfig ((at1000 0 0o650100).readWord 0o2000) = .sza true ∧
      decode launchConfig ((at1000 0 0o603000).readWord 0o2000) = .jmp false 0o3000 ∧
      decode launchConfig ((at1000 0 0o623000).readWord 0o2000) = .jsp false 0o3000 ∧
      decode launchConfig ((at1000 0 0o760400).readWord 0o2000) = .hlt := ⟨fun _ => rfl, by decide⟩

/-- Witness for XctLoopSticks: an `xct` of itself. -/
theorem witness_XctLoopSticks :
    (∀ a : Addr, a = 0o2000 → ∃ d z b u,
        decode (at1000 0 0o102000).cfg ((at1000 0 0o102000).readWord a) = .xct d z ∧
        (at1000 0 0o102000).ea d z = some (b, u) ∧ b = 0o2000) ∧
      (at1000 0 0o102000).ea false 0o2000 = some (0o2000, at1000 0 0o102000) := by
  refine ⟨?_, rfl⟩
  rintro a rfl
  exact ⟨false, 0o2000, 0o2000, at1000 0 0o102000, by decide, rfl, rfl⟩

/-- Each clause of AddInstruction at its boundary. -/
theorem witness_AddInstruction :
    (∀ a b : Word, (pair a b).ea false 0o2000 = some (0o2000, pair a b)) ∧
      val (pair 1 0o377776).ac + val ((pair 1 0o377776).readWord 0o2000) = 131071 ∧
      val (pair 1 0o377777).ac + val ((pair 1 0o377777).readWord 0o2000) = 131072 ∧
      val (pair 0 0o400000).ac + val ((pair 0 0o400000).readWord 0o2000) = -131071 ∧
      val (pair 0o777776 0o400000).ac + val ((pair 0o777776 0o400000).readWord 0o2000) = -131072 :=
    ⟨fun _ _ => rfl, by decide⟩

/-- Each clause of SubInstruction at its boundary. -/
theorem witness_SubInstruction :
    (∀ a b : Word, (pair a b).ea false 0o2000 = some (0o2000, pair a b)) ∧
      val (pair 0 0o400000).ac - val ((pair 0 0o400000).readWord 0o2000) = 131071 ∧
      val (pair 1 0o400000).ac - val ((pair 1 0o400000).readWord 0o2000) = 131072 ∧
      val (pair 0o400000 0).ac - val ((pair 0o400000 0).readWord 0o2000) = -131071 ∧
      val (pair 0o777776 0o377777).ac - val ((pair 0o777776 0o377777).readWord 0o2000) = -131072 :=
    ⟨fun _ _ => rfl, by decide⟩

/-- Both clauses of MultiplyStep. -/
theorem witness_MultiplyStep :
    (at1000 0 7).ea false 0o2000 = some (0o2000, at1000 0 7) ∧ bit 17 (at1000 0 7).io = false ∧
      bit 17 ({ at1000 0 7 with io := 3 } : State).io = true := ⟨rfl, by decide, by decide⟩

/-- Witness for SeventeenMultiplySteps. -/
theorem witness_SeventeenMultiplySteps :
    (at1000 0 7).ac = 0 ∧ sign (at1000 0 7).io = false ∧ sign ((at1000 0 7).readWord 0o2000) = false := by decide

/-- Both clauses of DivideQuotient, where they meet. -/
theorem witness_DivideQuotient :
    (∀ a b : Word, (pair a b).ea false 0o2000 = some (0o2000, pair a b)) ∧
      (val ((pair 5 5).readWord 0o2000)).natAbs ≤ (val (pair 5 5).ac).natAbs ∧
      (val (pair 4 5).ac).natAbs < (val ((pair 4 5).readWord 0o2000)).natAbs := ⟨fun _ _ => rfl, by decide⟩

/-- Witness for SpareCodesHalt. -/
theorem witness_SpareCodesHalt :
    (at1000 0o370000 0).run = true ∧ (at1000 0o370000 0).breakDue = none ∧ (at1000 0o370000 0).cfg.pdp1d = false ∧
      (opField ((at1000 0o370000 0).readWord 0o1000)).toNat ∈ [0, 5, 6, 15, 30] := by decide

/-- Each clause of GroupRowsAgreeWithGroup. -/
theorem witness_GroupRowsAgree :
    (wellFormed launchConfig .cla && opField (encode .cla) == 31) = true ∧
      (wellFormed launchConfig (.sza true) && opField (encode (.sza true)) == 26) = true ∧
      (wellFormed launchConfig (.scr 7) && opField (encode (.scr 7)) == 27) = true ∧
      (wellFormed (fitted .reader).cfg (.rpa true) && opField (encode (.rpa true)) == 29) = true := by decide

/-- Witness for SzoTestsAndClearsOverflow. -/
theorem witness_SzoTestsAndClearsOverflow :
    bit 8 (0o1100 : BitVec 13) = true ∧
      goesTo (exec (.szo true) { State.reset with ov := true }) (fun t => !t.ov) = true := by decide

/-- ShiftsMultiplyAndDivide, at the ends of the range. -/
theorem witness_ShiftsMultiply :
    val (pair 0o177777 0).ac * 2 ^ ((List.range 9).countP fun k => (0o400 : BitVec 9).getLsbD k) = 131070 ∧
      val (pair 0o600000 0).ac * 2 ^ ((List.range 9).countP fun k => (1 : BitVec 9).getLsbD k) = -131070 := by decide

/-- Witness for ShiftGroupWord: no register, and count 0. -/
theorem witness_ShiftGroupWord :
    bit 7 (0o0525 : BitVec 13) = false ∧ bit 8 (0o0525 : BitVec 13) = false ∧
      (0o1000 : BitVec 13).extractLsb' 0 9 = 0 := by decide

/-- Every clause of UnclaimedInOutRefused. -/
theorem witness_UnclaimedInOutRefused :
    inOutInstr (.dpp false) = true ∧ deviceOf (.dpp false) ≠ some .pdp1dInOut ∧ encode (.dpp false) ≠ 0o730000 ∧
      claimants State.reset.cfg (encode (.dpp false)) = [] ∧
      1 < (claimants { launchConfig with devices := [.type30, .type31] } (encode (.dpp false))).length ∧
      narrowedDisplays.installed = [.type30, .type31] ∧ launchConfig.narrowed = [] ∧
      narrowedDisplays.narrowed = [(.type30, .type31)] := by decide

/-- DeviceTransferCompletes, one row of each option. -/
theorem witness_DeviceTransfer :
    [(Opt.reader, Instr.rpa false), (Opt.punch, Instr.ppa false), (Opt.typewriter, Instr.tyi false),
      (Opt.type30, Instr.dpy false 3), (Opt.type33, Instr.gpl false), (Opt.type31, Instr.dpp false),
      (Opt.type40, Instr.lag false), (Opt.type421, Instr.rac false), (Opt.type51, Instr.msm false),
      (Opt.type138, Instr.rcb false), (Opt.type64, Instr.cirbuf false), (Opt.type630, Instr.rch false),
      (Opt.spacewar, Instr.iot11 false)].all (fun p =>
        inOutInstr p.2 && claimants (fitted p.1).cfg (encode p.2) == [p.1] &&
        !iBit (encode p.2) && !movesBlocks p.1) = true := by decide

/-- DeviceTransferCompletes for `sdb` with a display, and for a word of the same option that loads none (rule R247). -/
theorem witness_DeviceTransfer_sdb :
    claimants { launchConfig with devices := [.type33, .type30] } (encode (.sdb false)) = [.type33] ∧
      loadsDisplay .type33 (encode (.sdb false)) = true ∧ loadsDisplay .type33 (encode (.gpl false)) = false ∧
      ({ State.reset with cfg := { launchConfig with devices := [.type33, .type30] } } : State).displays .type33
        (encode (.sdb true)) = [.type30] := by decide

/-- Both clauses of SequenceBreakInstructions. -/
theorem witness_SequenceBreak :
    inOutInstr (.dsc false 1 2) = true ∧ deviceOf (.dsc false 1 2) ≠ some .pdp1dInOut ∧
      claimants (fitted .type120).cfg (encode (.dsc false 1 2)) = [.type120] ∧ (fitted .type120).cfg.breaks =
      false ∧
      claimants { having .type120 with breaks := true } (encode (.dsc false 1 2)) = [.type120] ∧
      iBit (encode (.dsc false 1 2)) = false := by decide

/-- Witness for BlockTransferCompletes. -/
theorem witness_BlockTransfer :
    [(Opt.type131, Instr.sia false), (.type52, .mel false 7), (.type510, .sfc false)].all (fun p =>
        inOutInstr p.2 && claimants (fitted p.1).cfg (encode p.2) == [p.1] && !iBit (encode p.2)) = true := by decide

/-- Every clause of DrumInstructions: in order and out of it. -/
theorem witness_Drum :
    [Instr.dia false 1, .dwc false 0, .dcl false 0o20, .dba false, .dra false].all (fun i =>
        claimants (fitted .type23).cfg (encode i) == [.type23]) = true ∧ (fitted .type23).drum ≠ .addressed ∧
      ({ fitted .type23 with drum := .counted } : State).drum = .counted := by decide

/-- Witness for WaitBitWaitsForDone. -/
theorem witness_WaitBit :
    [(Opt.reader, Instr.rpa true), (.type510, .mtf true 1), (.type23, .dia true 0), (.type33, .sdb true)].all (fun p =>
        inOutInstr p.2 && claimants (fitted p.1).cfg (encode p.2) == [p.1] && iBit (encode p.2)) = true ∧
      drumNext (fitted .type23).drum (encode (.dia true 0)) ≠ none ∧ deviceOf (.rpa true) ≠ some .pdp1dInOut :=
    by decide

/-- Witness for InOutFrame. -/
theorem witness_InOutFrame :
    inOutInstr (.rpa false) = true ∧ ∃ t, exec (.rpa false) { State.reset with cfg := having .reader } = .next t :=
    ⟨by decide, _, rfl⟩

/-- The reader installed, with a completion pulse outstanding. -/
def readerDone : State := { fitted .reader with devs := [(.reader, ⟨0, true⟩)] }

/-- Rule R222: `ioh` receives the pulse, which is then outstanding no longer. -/
theorem test_ioh_takes_pulse : ∃ t, exec .ioh readerDone = .next t ∧ (devOf .reader t.devs).done = false := by
  refine ⟨{ readerDone with devs := [(.reader, pulsed .reader ⟨0, true⟩)] }, ?_, rfl⟩
  show readerDone.ioWait = _
  simp only [State.ioWait, show readerDone.pulses = [.reader] from by decide,
    show readerDone.cfg.installed = [.reader] from by decide, List.length_nil, Nat.zero_add, Nat.mod_one]
  rfl

/-- Each clause of IohWaitsForPulse. -/
theorem witness_IohWaits :
    readerDone.cfg.installed = [.reader] ∧ (devOf .reader readerDone.devs).done = true ∧
      (devOf .reader (fitted .reader).devs).done = false ∧ State.reset.cfg.installed = [] := by decide

/-- Witness for OverflowIsSetByAddAndSub. -/
theorem witness_OverflowIsSet :
    (goesTo (exec (.add false 0o2000) { at1000 0 1 with ac := 0o377777 }) fun t => t.ov) = true ∧
      (goesTo (exec (.xct false 0o2000) { at1000 0 0o402000 with ac := 0o377777, ov := true }) fun t => t.ov)
      = true := by decide

/-- Witness for ProgramFlagWriters. -/
theorem witness_ProgramFlags :
    (goesTo (exec (.stf 7) State.reset) fun t => t.pf != State.reset.pf) = true := by decide

/-- Witness for HaltSourcesComplete. -/
theorem witness_HaltSources :
    (goesTo (exec (.xct false 0o2000) (at1000 0 0o760400)) fun t => !t.run) = true ∧ (at1000 0 0o760400).run = true :=
    by decide

/-- Witness for NonStoringKeepMemory. -/
theorem witness_NonStoring :
    (goesTo (exec (.sza false) State.reset) fun _ => true) = true ∧
      stores (performedBy (.sza false) State.reset) = false ∧ inOutInstr (performedBy (.sza false)
      State.reset) = false := by decide

/-- Both clauses of NoInstructionTraps. -/
theorem witness_NoInstructionTraps :
    State.reset.cfg.pdp1d = false ∧ State.reset.cfg.devices = [] ∧ wellFormed State.reset.cfg .cla = true ∧
      inOutInstr (performedBy .cla State.reset) = false ∧ deferParts .cla = none ∧
      wellFormed State.reset.cfg (.dis true 0) = true ∧ inOutInstr (performedBy (.dis true 0) State.reset) =
      false := by decide

/-- StoreSeenByNextFetch: an address that is PC, by the defer chain or not, for the seven; `jda` and `cal` have no more
hypotheses. -/
theorem witness_StoreSeen :
    (at1000 0 0o001000).run = true ∧ (at1000 0 0o001000).cfg.breaks = false ∧
      (at1000 0 0o001000).ea false 0o1000 = some ((at1000 0 0o001000).pc, at1000 0 0o001000) ∧
      (at1000 0 0o001000).ea true 0o2000 = some (0o1000, { at1000 0 0o001000 with mb := 0o001000 }) :=
    ⟨rfl, rfl, rfl, rfl⟩

end Sys2Proof.Tests
end

section
/-! SUPPORT. A property of every next state that an outcome answers, carried through the shared operations: a proof
about an instruction goes by these rules and not by the operations' branches. -/

namespace Sys2Proof.Machine

/-- Whatever next state the outcome answers has the property; a fault and a refusal answer none. -/
def allNext (o : Out) (P : State → Prop) : Prop := ∀ t, o = .next t → P t

variable {P : State → Prop} {s : State}

@[simp] theorem allNext_next : allNext (.next s) P ↔ P s :=
  ⟨fun h => h s rfl, fun h _ ht => Host.Outcome.next.inj ht ▸ h⟩

@[simp] theorem allNext_fault (f : Fault) : allNext (.fault f) P := fun _ h => nomatch h

@[simp] theorem allNext_refused (r : Refusal) : allNext (.refused r) P := fun _ h => nomatch h

/-- An instruction with an address goes on with MB alone changed, or is stuck (rules R53, R55). One with an operand is a
case of it: `withOperand` is `withAddress` with the read as part of what follows. -/
theorem allNext_withAddress {i : Bool} {y : Addr} {k : Addr → State → Out}
    (h : ∀ e w, allNext (k e { s with mb := w }) P) : allNext (withAddress i y s k) P := by
  obtain ⟨-, hk⟩ | ⟨e, w, -, hk⟩ := withAddress_cases i y s k
  · rw [hk]
    exact allNext_fault _
  · rw [hk]
    exact h e w

/-- A conditional outcome, by its branches. -/
theorem allNext_ite {c : Prop} [Decidable c] {o o' : Out} (h : allNext o P) (h' : allNext o' P) :
    allNext (if c then o else o') P := by
  split
  · exact h
  · exact h'

/-- Two states that differ at most in what an in-out transfer may change: IO, the program flags, PC, memory through MB,
the devices' states and the drum's set-up (rule R220, decision D24). -/
def inOutFrame (s t : State) : Prop :=
  t = { s with io := t.io, pf := t.pf, pc := t.pc, mem := t.mem, mb := t.mb, devs := t.devs, drum := t.drum }

theorem inOutFrame_run {t : State} (h : inOutFrame s t) : t.run = s.run := by rw [h]

theorem received_inOutFrame (o : Opt) (w : Word) (r : DevResult) : inOutFrame s (s.received o w r) := by
  rw [received_eq]
  rfl

theorem transfer_inOutFrame (o : Opt) (w : Word) : allNext (s.transfer o w) (inOutFrame s) := by
  intro t h
  obtain ⟨-, rfl⟩ | ⟨-, -, rfl⟩ := transfer_next h
  all_goals exact received_inOutFrame o w _

theorem handOver_inOutFrame (o : Opt) (w : Word) : allNext (s.handOver o w) (inOutFrame s) := by
  intro t h
  obtain ⟨-, ht⟩ | ⟨-, d, -, ht⟩ := handOver_next h
  · exact transfer_inOutFrame o w t ht
  · have hd : inOutFrame { s with drum := d } t := transfer_inOutFrame .type23 w t ht
    rw [inOutFrame, hd]

theorem ioWait_inOutFrame : allNext s.ioWait (inOutFrame s) := by
  intro t h
  obtain ⟨o, -, -, rfl⟩ := ioWait_next h
  rfl

theorem inOut_inOutFrame (w : Word) : allNext (s.inOut w) (inOutFrame s) := by
  intro t h
  obtain ⟨-, ht⟩ | ⟨o, -, ht⟩ := inOut_next h
  · exact ioWait_inOutFrame t ht
  · exact handOver_inOutFrame o w t ht

/-- What an `xct` does is what the instruction at the end of its chain does, performed in a state that differs from the
`xct`'s own in MB alone (rule R140); a chain with no end answers no state. -/
theorem allNext_xct {d : Bool} {y : Addr}
    (h : ∀ e x, (∀ j z, x ≠ .xct j z) → performedBy (.xct d y) s = x → allNext (exec x (s.afterRead e)) P) :
    allNext (exec (.xct d y) s) P := by
  show allNext (execXct d y s) P
  unfold execXct
  split
  · exact allNext_fault _
  · rename_i x s1 hx
    obtain ⟨e, -, rfl, hne⟩ := xctTarget_ok _ hx
    rw [performed_eq_exec x _ hne]
    exact h e x hne (by simp only [performedBy, hx])

/-- An instruction that is no `xct` performs itself. -/
theorem performedBy_of_ne_xct {i : Instr} (h : ∀ j z, i ≠ .xct j z) : performedBy i s = i := by
  cases i with
  | xct d y => exact absurd rfl (h d y)
  | _ => rfl

end Sys2Proof.Machine
end

section
/-! PROOFS. RUN (rule R30): an instruction leaves it or clears it, and which of the two `halts` says. -/

namespace Sys2Proof.Machine

/-- RUN of t is 0 if the instruction is one that halts, and else as it was in s (rules R30, R361). -/
def runAfter (i : Instr) (s t : State) : Prop := t.run = (!halts i && s.run)

theorem State.doIf_run (s : State) (c : Bool) {micro : State → State} (h : ∀ u, (micro u).run = u.run) :
    (s.doIf c micro).run = s.run := by
  cases c with
  | false => rfl
  | true => exact h s

theorem State.skipOn_run (s : State) (inv c : Bool) : (s.skipOn inv c).run = s.run := s.skipIf_run _

/-- Of the micro-operations only the last, `hlt` at bit 9, touches RUN (rules R161, R166). -/
theorem operate_run (bits : BitVec 13) (s : State) : (operate bits s).run = (!bit 9 bits && s.run) := by
  simp only [operate, State.doIf_eq, apply_ite State.run, State.halt_run, State.setFlags_run, State.exchange_run,
    State.complementIo_run, State.complementAc_run, State.orPcword_run, State.orTestWord_run, State.clearAc_run,
    State.clearIo_run, ite_self]
  cases bit 9 bits <;> rfl

theorem execSkp_run (bits : BitVec 13) (s : State) : allNext (execSkp bits s) fun t => t.run = s.run := by
  refine allNext_next.mpr ((State.skipOn_run _ _ _).trans ?_)
  cases bit 8 bits <;> rfl

theorem execSft_run (bits : BitVec 13) (s : State) : allNext (execSft bits s) fun t => t.run = s.run := by
  unfold execSft
  split
  all_goals exact allNext_next.mpr rfl

theorem inOut_run (w : Word) (s : State) : allNext (s.inOut w) fun t => t.run = s.run :=
  fun t h => inOutFrame_run (inOut_inOutFrame w t h)

/-- What an instruction other than `xct` does to RUN, by the shape of its execution. -/
theorem exec_runAfter_of_ne_xct (i : Instr) (s : State) (hx : ∀ j z, i ≠ .xct j z) :
    allNext (exec i s) (runAfter i s) := by
  cases i with
  | xct d y => exact absurd rfl (hx d y)
  -- an address, then a register, a store or a jump
  | and | ior | xor | lac | lio | add | sub | mus | dis | dac | dap | dip | dio | dzm | idx | jmp | jsp =>
    exact allNext_withAddress fun _ _ => allNext_next.mpr rfl
  | mul | div => exact allNext_withAddress fun _ _ => allNext_ite (allNext_next.mpr rfl) (allNext_next.mpr rfl)
  -- a skip
  | isp | sad | sas => exact allNext_withAddress fun _ _ => allNext_next.mpr (State.skipIf_run _ _)
  | sma | spa | spi | sza | szo | szf | szs | sni | szi => exact allNext_next.mpr (State.skipOn_run _ _ _)
  | skp bits => exact execSkp_run bits s
  -- registers alone
  | cal | jda | law | lawNeg | nop | cla | cli | cma | clf | stf | lia | lai | swp | cmi | ral | rar | rcl | rcr | ril
  | rir | sal | sar | scl | scr | sil | sir | sftNoRegister => exact allNext_next.mpr rfl
  | sft bits => exact execSft_run bits s
  | lap | lat => exact allNext_next.mpr (State.doIf_run _ _ fun _ => rfl)
  -- the halts
  | hlt | spare00 | spare12 | spare14 | spare36 | spare74 => exact allNext_next.mpr rfl
  | opr bits => exact allNext_next.mpr (operate_run bits s)
  -- the PDP-1D instructions that answer no state
  | lch | dch | tad | special | ifi | idc | ida | scm | sci | scf | szl | cll | cml | erg | lrg | lrm | erm | rnm | rsm
  | rck | ctb | rro | rri | gcf => exact allNext_refused _
  | ioh => exact fun t h => inOutFrame_run (ioWait_inOutFrame t h)
  -- in-out transfers
  | _ => exact inOut_run _ s

/-- RUN after an instruction is 0 exactly if it was, or if the instruction performed is one that halts. -/
theorem exec_runAfter (i : Instr) (s : State) : allNext (exec i s) (runAfter (performedBy i s) s) := by
  by_cases hx : ∃ d y, i = .xct d y
  · obtain ⟨d, y, rfl⟩ := hx
    refine allNext_xct fun e x hne hp => ?_
    rw [hp]
    exact exec_runAfter_of_ne_xct x (s.afterRead e) hne
  · have hne : ∀ j z, i ≠ .xct j z := fun j z h => hx ⟨j, z, h⟩
    rw [performedBy_of_ne_xct hne]
    exact exec_runAfter_of_ne_xct i s hne

/-- No instruction sets RUN (rule R30). -/
theorem run_of_exec_run {i : Instr} {s t : State} (h : exec i s = .next t) (ht : t.run = true) : s.run = true := by
  have hrun : t.run = (!halts (performedBy i s) && s.run) := exec_runAfter i s t h
  rw [ht] at hrun
  exact (Bool.and_eq_true_iff.mp hrun.symm).2

/-- A halted computer has no step (rules R27, R30). -/
theorem step_halted {s : State} (h : s.run = false) : step s = .fault .halted := by
  simp only [step, h, Bool.false_eq_true, if_false]

/-- Settles O5: each instruction leaves RUN or clears it (`exec_runAfter`), and an `xct` does what the instruction at
the end of its chain does. -/
theorem runStateRule : Obligations.RunStateRule :=
  ⟨fun _ => rfl, fun _ _ _ h ht => run_of_exec_run h ht, fun _ h => step_halted h, rfl⟩

end Sys2Proof.Machine
end

section
/-! PROOFS. The memory-reference instructions that store nothing (40_basic_instructions.md): the logic instructions, the
loads and `jmp`, from their effective address, and their words as numbers (30_encoding.md rules R80, R81). -/

namespace Sys2Proof.Machine

/-- A word as a number: its operation code, i-bit and address part do not overlap, so their weights add up
(rule R80). -/
theorem toNat_mkWord (op : BitVec 5) (i : Bool) (y : Addr) :
    (mkWord op i y).toNat = 0o020000 * op.toNat + 0o010000 * i.toNat + y.toNat := by
  have hi : op.toNat <<< 1 ||| i.toNat = 2 * op.toNat + i.toNat := by
    rw [← Nat.shiftLeft_add_eq_or_of_lt (Bool.toNat_lt i), Nat.shiftLeft_eq]
    omega
  have hy : (2 * op.toNat + i.toNat) <<< 12 ||| y.toNat = 4096 * (2 * op.toNat + i.toNat) + y.toNat := by
    rw [← Nat.shiftLeft_add_eq_or_of_lt y.isLt, Nat.shiftLeft_eq]
    omega
  rw [mkWord, BitVec.toNat_append, BitVec.toNat_append, BitVec.toNat_ofBool, hi, hy]
  omega

/-- Settles O16: each of the three goes on from the word at the effective address, which MB holds
(`withOperand_some`). -/
theorem logicInstructions : Obligations.LogicInstructions := by
  intro s s1 i y e h
  refine ⟨?and, ?ior, ?xor, ?andWord, ?iorWord, ?xorWord⟩
  case and => exact withOperand_some h fun b s1 => .next { s1 with ac := s1.ac &&& b }
  case ior => exact withOperand_some h fun b s1 => .next { s1 with ac := s1.ac ||| b }
  case xor => exact withOperand_some h fun b s1 => .next { s1 with ac := s1.ac ^^^ b }
  case andWord => exact toNat_mkWord 1 i y
  case iorWord => exact toNat_mkWord 2 i y
  case xorWord => exact toNat_mkWord 3 i y

/-- Settles O17: a load goes on from the word at the effective address, which MB holds (`withOperand_some`). -/
theorem loadInstructions : Obligations.LoadInstructions := by
  intro s s1 i y e h
  refine ⟨?lac, ?lio, ?lacWord, ?lioWord⟩
  case lac => exact withOperand_some h fun b s1 => .next { s1 with ac := b }
  case lio => exact withOperand_some h fun b s1 => .next { s1 with io := b }
  case lacWord => exact toNat_mkWord 8 i y
  case lioWord => exact toNat_mkWord 9 i y

/-- Settles O24: `jmp` goes on from the effective address (`withAddress_some`) and reads no operand, so MB is what the
defer reads have left in it, the one field they touch (`ea_some`). -/
theorem jmpSetsProgramCounter : Obligations.JmpSetsProgramCounter := by
  intro s s1 i y e h
  refine ⟨?jump, toNat_mkWord 24 i y⟩
  obtain ⟨w, rfl⟩ := ea_some h
  exact withAddress_some h fun e s1 => .next { s1 with pc := e }

end Sys2Proof.Machine
end

section
/-! PROOFS. OV (10_state.md rule R24): `add` and `sub` may set it, `szo`, alone or in a union, clears it
(43_skip_group.md rule R186), and every other instruction leaves it. -/

namespace Sys2Proof.Machine

/-- What holds of every instruction other than `xct`, and does not see the MB of the state before, holds of every
instruction for the one performed (rule R140). -/
theorem allNext_performedBy (Q : Instr → State → State → Prop) {i : Instr} {s : State}
    (hmb : ∀ x e t, Q x (s.afterRead e) t → Q x s t)
    (hexec : ∀ x u, (∀ j z, x ≠ .xct j z) → allNext (exec x u) (Q x u)) :
    allNext (exec i s) (Q (performedBy i s) s) := by
  by_cases hx : ∃ d y, i = .xct d y
  · obtain ⟨d, y, rfl⟩ := hx
    refine allNext_xct fun e x hne hp t ht => ?_
    rw [hp]
    exact hmb x e t (hexec x (s.afterRead e) hne t ht)
  · have hne : ∀ j z, i ≠ .xct j z := fun j z h => hx ⟨j, z, h⟩
    rw [performedBy_of_ne_xct hne]
    exact hexec i s hne

/-- OV of t is 1 where the instruction has set it, or where it was 1 in s and the instruction does not clear it. -/
def overflowAfter (i : Instr) (s t : State) : Prop :=
  t.ov = (setsOverflow i && t.ov || !clearsOverflow i && s.ov)

/-- `szo` as one record update: the condition is tested on the old OV (rules R186, R189). -/
theorem exec_szo (inv : Bool) (s : State) :
    exec (.szo inv) s = .next { s with pc := if s.ovZero != inv then s.pc + 1 else s.pc, ov := false } :=
  congrArg Host.Outcome.next (State.skipIf_eq { s with ov := false } (s.ovZero != inv))

/-- A skip word as one record update: it clears OV exactly where bit 8 selects `szo` (rules R180, R186). -/
theorem exec_skp (bits : BitVec 13) (s : State) :
    exec (.skp bits) s = .next { s with
      pc := if skipCondition bits s != bit 5 bits then s.pc + 1 else s.pc, ov := !bit 8 bits && s.ov } := by
  show execSkp bits s = _
  simp only [execSkp, State.skipOn, State.skipIf_eq]
  cases bit 8 bits <;> rfl

theorem State.doIf_ov (s : State) (c : Bool) {micro : State → State} (h : ∀ u, (micro u).ov = u.ov) :
    (s.doIf c micro).ov = s.ov := by
  cases c with
  | false => rfl
  | true => exact h s

theorem State.skipOn_ov (s : State) (inv c : Bool) : (s.skipOn inv c).ov = s.ov := s.skipIf_ov _

/-- No micro-operation of the operate group touches OV (rule R161). -/
theorem operate_ov (bits : BitVec 13) (s : State) : (operate bits s).ov = s.ov := by
  simp only [operate, State.doIf_eq, apply_ite State.ov, State.halt_ov, State.setFlags_ov, State.exchange_ov,
    State.complementIo_ov, State.complementAc_ov, State.orPcword_ov, State.orTestWord_ov, State.clearAc_ov,
    State.clearIo_ov, ite_self]

theorem execSft_ov (bits : BitVec 13) (s : State) : allNext (execSft bits s) fun t => t.ov = s.ov := by
  unfold execSft
  split
  all_goals exact allNext_next.mpr rfl

theorem inOutFrame_ov {s t : State} (h : inOutFrame s t) : t.ov = s.ov := by rw [h]

theorem inOut_ov (w : Word) (s : State) : allNext (s.inOut w) fun t => t.ov = s.ov :=
  fun t h => inOutFrame_ov (inOut_inOutFrame w t h)

/-- An instruction that can set OV has only to keep it where it is 1. -/
theorem overflowAfter_of_sets {i : Instr} {s t : State} (hi : setsOverflow i = true) (h : s.ov = true → t.ov = true) :
    overflowAfter i s t := by
  unfold overflowAfter
  cases hs : s.ov with
  | false => simp [hi]
  | true => simp [hi, h hs]

/-- What an instruction other than `xct` does to OV, by the shape of its execution. -/
theorem exec_overflowAfter_of_ne_xct (i : Instr) (s : State) (hx : ∀ j z, i ≠ .xct j z) :
    allNext (exec i s) (overflowAfter i s) := by
  cases i with
  | xct d y => exact absurd rfl (hx d y)
  -- the two that set OV, by an inclusive OR with its old value
  | add | sub => exact allNext_withAddress fun _ _ => allNext_next.mpr (overflowAfter_of_sets rfl Bool.or_inl)
  -- the two that clear it
  | szo inv =>
    rw [exec_szo]
    exact allNext_next.mpr rfl
  | skp bits =>
    rw [exec_skp]
    exact allNext_next.mpr rfl
  -- an address, then a register, a store or a jump
  | and | ior | xor | lac | lio | mus | dis | dac | dap | dip | dio | dzm | idx | jmp | jsp =>
    exact allNext_withAddress fun _ _ => allNext_next.mpr rfl
  | mul | div => exact allNext_withAddress fun _ _ => allNext_ite (allNext_next.mpr rfl) (allNext_next.mpr rfl)
  -- the other skips
  | isp | sad | sas => exact allNext_withAddress fun _ _ => allNext_next.mpr (State.skipIf_ov _ _)
  | sma | spa | spi | sza | szf | szs | sni | szi => exact allNext_next.mpr (State.skipOn_ov _ _ _)
  -- registers and RUN alone
  | cal | jda | law | lawNeg | nop | cla | cli | cma | clf | stf | lia | lai | swp | cmi | ral | rar | rcl | rcr | ril
  | rir | sal | sar | scl | scr | sil | sir | sftNoRegister | hlt | spare00 | spare12 | spare14 | spare36 | spare74 =>
    exact allNext_next.mpr rfl
  | sft bits => exact execSft_ov bits s
  | lap | lat => exact allNext_next.mpr (State.doIf_ov _ _ fun _ => rfl)
  | opr bits => exact allNext_next.mpr (operate_ov bits s)
  -- the PDP-1D instructions that answer no state
  | lch | dch | tad | special | ifi | idc | ida | scm | sci | scf | szl | cll | cml | erg | lrg | lrm | erm | rnm | rsm
  | rck | ctb | rro | rri | gcf => exact allNext_refused _
  | ioh => exact fun t h => inOutFrame_ov (ioWait_inOutFrame t h)
  -- in-out transfers
  | _ => exact inOut_ov _ s

/-- What an instruction does to OV is what the instruction performed does to it (rules R24, R140). -/
theorem exec_overflowAfter (i : Instr) (s : State) : allNext (exec i s) (overflowAfter (performedBy i s) s) :=
  allNext_performedBy overflowAfter (fun _ _ _ h => h) exec_overflowAfter_of_ne_xct

/-- OV goes from 1 to 0 only by an instruction that clears it. -/
theorem clearsOverflow_of_overflowAfter {i : Instr} {s t : State} (h : overflowAfter i s t) (hs : s.ov = true)
    (ht : t.ov = false) : clearsOverflow i = true := by
  simpa [overflowAfter, hs, ht] using h

/-- Settles O40: `szo` and the skip words by their record updates (`exec_szo`, `exec_skp`), and that nothing else clears
OV by what every instruction does to it (`exec_overflowAfter`). -/
theorem szoTestsAndClearsOverflow : Obligations.SzoTestsAndClearsOverflow := by
  refine ⟨?szo, rfl, ?inverted, ?union, ?onlySzo⟩
  case szo =>
    intro s
    rw [exec_szo, State.ovZero]
    cases s.ov <;> rfl
  case inverted => exact fun s => ⟨_, exec_szo true s, rfl⟩
  case union =>
    intro s bits hbit
    refine ⟨_, exec_skp bits s, ?_⟩
    rw [hbit]
    rfl
  case onlySzo =>
    intro i s t h hs ht
    exact clearsOverflow_of_overflowAfter (exec_overflowAfter i s t h) hs ht

end Sys2Proof.Machine
end

section
/-! PROOFS. The fields of a word (30_encoding.md rules R80, R81, R86, R90): what each field of an assembled word is, and that
a word is its fields put together. -/

namespace Sys2Proof.Machine

@[simp] theorem opField_groupWord (op : BitVec 5) (bits : BitVec 13) : opField (groupWord op bits) = op :=
  BitVec.extractLsb'_append_eq_left

@[simp] theorem operandBits_groupWord (op : BitVec 5) (bits : BitVec 13) : operandBits (groupWord op bits) = bits :=
  BitVec.extractLsb'_append_eq_right

/-- A word is its operation code and its bits 5 to 17 (rule R81). -/
theorem groupWord_fields (w : Word) : groupWord (opField w) (operandBits w) = w :=
  BitVec.extractLsb'_append_extractLsb' (w := 5) (len := 13)

/-- Bits 5 to 17 are the i-bit and the address part (rule R80). -/
theorem mkWord_eq_groupWord (op : BitVec 5) (i : Bool) (y : Addr) :
    mkWord op i y = groupWord op (BitVec.ofBool i ++ y) := BitVec.append_assoc

@[simp] theorem opField_mkWord (op : BitVec 5) (i : Bool) (y : Addr) : opField (mkWord op i y) = op := by
  rw [mkWord_eq_groupWord, opField_groupWord]

@[simp] theorem operandBits_mkWord (op : BitVec 5) (i : Bool) (y : Addr) :
    operandBits (mkWord op i y) = BitVec.ofBool i ++ y := by
  rw [mkWord_eq_groupWord, operandBits_groupWord]

@[simp] theorem addrPart_mkWord (op : BitVec 5) (i : Bool) (y : Addr) : addrPart (mkWord op i y) = y :=
  BitVec.extractLsb'_append_eq_right

/-- The i-bit is bit 5 of the operand bits (rule R81). -/
theorem iBit_eq (w : Word) : iBit w = bit 5 (operandBits w) := by simp [iBit, bit, operandBits]

theorem addrPart_eq (w : Word) : addrPart w = (operandBits w).extractLsb' 0 12 := by
  ext k hk
  simp [addrPart, operandBits, Nat.lt_trans hk]

/-- A bit as a field of width one. -/
theorem ofBool_bit {v : Nat} (n : Nat) (w : BitVec v) : BitVec.ofBool (bit n w) = w.extractLsb' (17 - n) 1 := by
  ext k hk
  obtain rfl : k = 0 := by omega
  simp [bit]

/-- Bits 5 to 17 are bit 5 and bits 6 to 17. -/
theorem operandBits_split (bits : BitVec 13) : BitVec.ofBool (bit 5 bits) ++ bits.extractLsb' 0 12 = bits := by
  rw [ofBool_bit]
  exact BitVec.extractLsb'_append_extractLsb' (w := 1) (len := 12)

@[simp] theorem bit_five_ofBool_append (i : Bool) (y : Addr) : bit 5 (BitVec.ofBool i ++ y) = i := by
  show (BitVec.ofBool i ++ y).getLsbD 12 = i
  rw [BitVec.getLsbD_append]
  simp

@[simp] theorem iBit_mkWord (op : BitVec 5) (i : Bool) (y : Addr) : iBit (mkWord op i y) = i := by
  rw [iBit_eq, operandBits_mkWord, bit_five_ofBool_append]

/-- A word is its operation code, i-bit and address part (rule R81). -/
theorem mkWord_fields (w : Word) : mkWord (opField w) (iBit w) (addrPart w) = w := by
  rw [mkWord_eq_groupWord, iBit_eq, addrPart_eq, operandBits_split, groupWord_fields]

@[simp] theorem opField_iotWord (wait : Bool) (ctl dev : BitVec 6) : opField (iotWord wait ctl dev) = 29 :=
  opField_mkWord 29 wait (ctl ++ dev)

@[simp] theorem iBit_iotWord (wait : Bool) (ctl dev : BitVec 6) : iBit (iotWord wait ctl dev) = wait :=
  iBit_mkWord 29 wait (ctl ++ dev)

@[simp] theorem devField_iotWord (wait : Bool) (ctl dev : BitVec 6) : devField (iotWord wait ctl dev) = dev := by
  rw [devField, iotWord, mkWord, BitVec.extractLsb'_append_eq_of_add_le (by decide), BitVec.extractLsb'_append_eq_right]

@[simp] theorem ctlField_iotWord (wait : Bool) (ctl dev : BitVec 6) : ctlField (iotWord wait ctl dev) = ctl := by
  rw [ctlField, iotWord, mkWord, BitVec.extractLsb'_append_eq_of_add_le (by decide), BitVec.extractLsb'_append_eq_left]

/-- An in-out word is its wait bit, control and device fields (rule R90). -/
theorem iotWord_fields {w : Word} (h : opField w = 29) : iotWord (iBit w) (ctlField w) (devField w) = w := by
  have hy : ctlField w ++ devField w = addrPart w := BitVec.extractLsb'_append_extractLsb'_eq_extractLsb' rfl
  rw [iotWord, hy, ← h, mkWord_fields]

/-- A six-bit field is its two octal digits. -/
theorem digits_split (c : BitVec 6) : c.extractLsb' 3 3 ++ c.extractLsb' 0 3 = c :=
  BitVec.extractLsb'_append_extractLsb' (w := 3) (len := 3)

@[simp] theorem highDigit_append (k n : BitVec 3) : (k ++ n).extractLsb' 3 3 = k := BitVec.extractLsb'_append_eq_left

@[simp] theorem lowDigit_append (k n : BitVec 3) : (k ++ n).extractLsb' 0 3 = n := BitVec.extractLsb'_append_eq_right

/-- The fields of a shift/rotate word (rule R89). -/
theorem shiftWord_fields (right shift io ac : Bool) (mask : BitVec 9) :
    bit 5 (operandBits (shiftWord right shift io ac mask)) = right ∧
    bit 6 (operandBits (shiftWord right shift io ac mask)) = shift ∧
    bit 7 (operandBits (shiftWord right shift io ac mask)) = io ∧
    bit 8 (operandBits (shiftWord right shift io ac mask)) = ac ∧
    (operandBits (shiftWord right shift io ac mask)).extractLsb' 0 9 = mask := by
  rw [shiftWord, operandBits_groupWord]
  refine ⟨?_, ?_, ?_, ?_, BitVec.extractLsb'_append_eq_right⟩
  all_goals
    simp only [bit, BitVec.getLsbD_append, BitVec.append_ofBool]
    simp [BitVec.getElem_concat]

/-- A shift/rotate word is its direction, kind, registers and count mask (rule R89). -/
theorem shiftWord_bits (bits : BitVec 13) :
    shiftWord (bit 5 bits) (bit 6 bits) (bit 7 bits) (bit 8 bits) (bits.extractLsb' 0 9) = groupWord 27 bits := by
  have h : BitVec.ofBool (bit 5 bits) ++ BitVec.ofBool (bit 6 bits) ++ BitVec.ofBool (bit 7 bits) ++
      BitVec.ofBool (bit 8 bits) ++ bits.extractLsb' 0 9 = bits := by
    have join (k l : Nat) : bits.extractLsb' (k + 1) l ++ bits.extractLsb' k 1 = bits.extractLsb' k (l + 1) :=
      BitVec.extractLsb'_append_extractLsb'_eq_extractLsb' rfl
    simp only [ofBool_bit]
    rw [join 11, join 10, join 9]
    exact BitVec.extractLsb'_append_extractLsb' (w := 4) (len := 9)
  rw [shiftWord, h]

end Sys2Proof.Machine
end

section
/-! PROOFS. The decoder and the encoder (30_encoding.md): each is the other's inverse, on the well-formed instructions of a
configuration and on all words. -/

namespace Sys2Proof

open Machine

variable {cfg : Config}

/-! ### The in-out group (rules R91(h), R220) -/

/-- An option that alone claims a word claims it. -/
theorem optClaims_of_claimants {o : Opt} {w : Word} (h : claimants cfg w = [o]) : optClaims o w = true := by
  have hmem : o ∈ claimants cfg w := by simp [h]
  simpa using (Bool.and_eq_true_iff.mp (List.mem_filter.mp hmem).2).1

/-- No option claims the word of `ioh`, which is the processor's own (rule R222). -/
theorem optClaims_ioh (o : Opt) : optClaims o 0o730000 = false := by cases o <;> decide

theorem ne_ioh_of_claimants {o : Opt} {w : Word} (h : claimants cfg w = [o]) : w ≠ 0o730000 := by
  rintro rfl
  exact Bool.false_ne_true ((optClaims_ioh o).symm.trans (optClaims_of_claimants h))

theorem soleClaim_iff {o : Opt} {w : Word} : soleClaim cfg o w = true ↔ claimants cfg w = [o] := beq_iff_eq

theorem decode_iot_group {w : Word} (h : opField w = 29) : decode cfg w = decodeIot cfg w := by
  simp [decode, h]

/-- An in-out word that one option alone claims is decoded by that option's row. -/
theorem decode_of_row {o : Opt} {wait : Bool} {ctl dev : BitVec 6} {i : Instr}
    (h : soleClaim cfg o (iotWord wait ctl dev) = true) (hrow : rowOf cfg o wait ctl dev = some i) :
    decode cfg (iotWord wait ctl dev) = i := by
  have hc := soleClaim_iff.mp h
  rw [decode_iot_group (opField_iotWord wait ctl dev), decodeIot, if_neg (ne_ioh_of_claimants hc), hc]
  simp [hrow]

/-- An in-out word that no row names is `iot`. -/
theorem decode_iot {wait : Bool} {y : Addr} (h : iotUnnamed cfg wait y = true) :
    decode cfg (mkWord 29 wait y) = .iot wait y := by
  simp only [iotUnnamed, Bool.and_eq_true, Bool.not_eq_true', Bool.and_eq_false_iff, bne_iff_ne] at h
  obtain ⟨hio, hlen⟩ := h
  have hne : mkWord 29 wait y ≠ 0o730000 := by
    intro he
    have hi : iBit (mkWord 29 wait y) = true := by rw [he]; rfl
    have hy : addrPart (mkWord 29 wait y) = 0 := by rw [he]; rfl
    rw [iBit_mkWord] at hi
    rw [addrPart_mkWord] at hy
    simp [hi, hy] at hio
  rw [decode_iot_group (opField_mkWord 29 wait y), decodeIot, if_neg hne, iBit_mkWord, addrPart_mkWord]
  split
  · rename_i o ho
    exact absurd (congrArg List.length ho) hlen
  · rfl

/-! ### The skip group (rules R88, R91(e)) -/

/-- A skip condition with bits 6 to 14 clear is a flag number. -/
theorem flagNumber_split {y : Addr} (h : y.extractLsb' 3 9 = 0) : (0 : BitVec 9) ++ y.extractLsb' 0 3 = y := by
  rw [← h]
  exact BitVec.extractLsb'_append_extractLsb' (w := 9) (len := 3)

/-- A skip condition with bits 6 to 11 and 15 to 17 clear is a switch number. -/
theorem switchNumber_split {y : Addr} (h : y.extractLsb' 6 6 = 0) (h0 : y.extractLsb' 0 3 = 0) :
    (0 : BitVec 6) ++ y.extractLsb' 3 3 ++ (0 : BitVec 3) = y := by
  have hhigh : (0 : BitVec 6) ++ y.extractLsb' 3 3 = y.extractLsb' 3 9 := by
    rw [← h]
    exact BitVec.extractLsb'_append_extractLsb'_eq_extractLsb' rfl
  rw [hhigh, ← h0]
  exact BitVec.extractLsb'_append_extractLsb' (w := 9) (len := 3)

/-- The skip conditions with a row of their own: the single conditions, a flag number and a switch number (rule R88). -/
theorem mem_skipNamed_iff (y : Addr) : skipNamed.contains y = true ↔
    y = 0o100 ∨ y = 0o200 ∨ y = 0o400 ∨ y = 0o1000 ∨ y = 0o2000 ∨
      y ≠ 0 ∧ (y.extractLsb' 3 9 = 0 ∨ y.extractLsb' 6 6 = 0 ∧ y.extractLsb' 0 3 = 0) := by
  constructor
  · intro h
    have hall : (skipNamed.all fun z => z = 0o100 ∨ z = 0o200 ∨ z = 0o400 ∨ z = 0o1000 ∨ z = 0o2000 ∨
        z ≠ 0 ∧ (z.extractLsb' 3 9 = 0 ∨ z.extractLsb' 6 6 = 0 ∧ z.extractLsb' 0 3 = 0)) = true := by decide
    exact of_decide_eq_true (List.all_eq_true.mp hall y (List.contains_iff_mem.mp h))
  · have hflag : ∀ f : BitVec 3, (0 : BitVec 9) ++ f ≠ 0 → skipNamed.contains ((0 : BitVec 9) ++ f) = true := by decide
    have hswitch : ∀ n : BitVec 3, (0 : BitVec 6) ++ n ++ (0 : BitVec 3) ≠ 0 →
        skipNamed.contains ((0 : BitVec 6) ++ n ++ (0 : BitVec 3)) = true := by decide
    rintro (rfl | rfl | rfl | rfl | rfl | ⟨hne, h | ⟨h, h0⟩⟩)
    case inr.inr.inr.inr.inr.inl =>
      rw [← flagNumber_split h] at hne ⊢
      exact hflag _ hne
    case inr.inr.inr.inr.inr.inr =>
      rw [← switchNumber_split h h0] at hne ⊢
      exact hswitch _ hne
    all_goals rfl

/-- The decoder of the skip group on the i-bit and the condition apart. -/
theorem decodeSkip_append (inv : Bool) (y : Addr) : decodeSkip cfg (BitVec.ofBool inv ++ y) =
    if y = 0o100 then .sza inv
    else if y = 0o200 then .spa inv
    else if y = 0o400 then .sma inv
    else if y = 0o1000 then .szo inv
    else if y = 0o2000 then .spi inv
    else if y = 0o4000 ∧ cfg.pdp1d then (if inv then .szi else .sni)
    else if y = 0 then .skp (BitVec.ofBool inv ++ y)
    else if y.extractLsb' 3 9 = 0 then .szf inv (y.extractLsb' 0 3)
    else if y.extractLsb' 6 6 = 0 ∧ y.extractLsb' 0 3 = 0 then .szs inv (y.extractLsb' 3 3)
    else .skp (BitVec.ofBool inv ++ y) := by
  simp only [decodeSkip, bit_five_ofBool_append, BitVec.extractLsb'_append_eq_right]

theorem decodeSkip_flag (inv : Bool) {f : BitVec 3} (hf : f ≠ 0) :
    decodeSkip cfg (BitVec.ofBool inv ++ ((0 : BitVec 9) ++ f)) = .szf inv f := by
  have hsingle : ∀ f : BitVec 3, (0 : BitVec 9) ++ f ≠ 0o100 ∧ (0 : BitVec 9) ++ f ≠ 0o200 ∧ (0 : BitVec 9) ++ f ≠ 0o400 ∧
      (0 : BitVec 9) ++ f ≠ 0o1000 ∧ (0 : BitVec 9) ++ f ≠ 0o2000 ∧ (0 : BitVec 9) ++ f ≠ 0o4000 ∧
      (f ≠ 0 → (0 : BitVec 9) ++ f ≠ 0) := by decide
  obtain ⟨h1, h2, h3, h4, h5, h6, h0⟩ := hsingle f
  rw [decodeSkip_append, if_neg h1, if_neg h2, if_neg h3, if_neg h4, if_neg h5, if_neg fun h => h6 h.1, if_neg (h0 hf),
    if_pos BitVec.extractLsb'_append_eq_left, BitVec.extractLsb'_append_eq_right]

theorem decodeSkip_switch (inv : Bool) {n : BitVec 3} (hn : n ≠ 0) :
    decodeSkip cfg (BitVec.ofBool inv ++ ((0 : BitVec 6) ++ n ++ (0 : BitVec 3))) = .szs inv n := by
  have hsingle : ∀ n : BitVec 3, n ≠ 0 → ∀ y : Addr, y = (0 : BitVec 6) ++ n ++ (0 : BitVec 3) →
      y ≠ 0o100 ∧ y ≠ 0o200 ∧ y ≠ 0o400 ∧ y ≠ 0o1000 ∧ y ≠ 0o2000 ∧ y ≠ 0o4000 ∧ y ≠ 0 ∧ y.extractLsb' 3 9 ≠ 0 ∧
      (y.extractLsb' 6 6 = 0 ∧ y.extractLsb' 0 3 = 0) ∧ y.extractLsb' 3 3 = n := by
    simp only [forall_eq]
    decide
  obtain ⟨h1, h2, h3, h4, h5, h6, h7, h8, h9, h10⟩ := hsingle n hn _ rfl
  rw [decodeSkip_append, if_neg h1, if_neg h2, if_neg h3, if_neg h4, if_neg h5, if_neg fun h => h6 h.1, if_neg h7,
    if_neg h8, if_pos h9, h10]

/-- The decoder of the skip group keeps a word that no row names. -/
theorem decodeSkip_union {bits : BitVec 13} (h : skipUnion cfg bits = true) : decodeSkip cfg bits = .skp bits := by
  simp only [skipUnion, Bool.and_eq_true, Bool.not_eq_true', Bool.and_eq_false_iff, beq_eq_false_iff_ne] at h
  obtain ⟨hn, h1d⟩ := h
  have hnot := (not_congr (mem_skipNamed_iff _)).mp (Bool.not_eq_true _ ▸ hn)
  push Not at hnot
  obtain ⟨h1, h2, h3, h4, h5, h6⟩ := hnot
  have h7 : ¬(bits.extractLsb' 0 12 = 0o4000 ∧ cfg.pdp1d = true) := by
    rintro ⟨hy, hp⟩
    rcases h1d with h | h
    · exact Bool.false_ne_true (h.symm.trans hp)
    · exact h hy
  simp only [decodeSkip, if_neg h1, if_neg h2, if_neg h3, if_neg h4, if_neg h5, if_neg h7]
  split
  · rfl
  · rename_i h0
    obtain ⟨h8, h9⟩ := h6 h0
    rw [if_neg h8, if_neg (not_and.mpr h9)]

/-- The instruction is one of the configuration, and the word is its word. -/
def instrOf (cfg : Config) (i : Instr) (w : Word) : Prop := wellFormed cfg i = true ∧ encode i = w

theorem instrOf_ite {c : Prop} [Decidable c] {i j : Instr} {w : Word} (h : c → instrOf cfg i w)
    (h' : ¬c → instrOf cfg j w) : instrOf cfg (if c then i else j) w := by
  split
  · exact h ‹_›
  · exact h' ‹_›

theorem decodeSkip_sound (bits : BitVec 13) : instrOf cfg (decodeSkip cfg bits) (groupWord 26 bits) := by
  obtain ⟨inv, y, rfl⟩ : ∃ inv, ∃ y : Addr, bits = BitVec.ofBool inv ++ y := ⟨_, _, (operandBits_split bits).symm⟩
  have hskp (hn : skipNamed.contains y = false) (h1d : ¬(y = 0o4000 ∧ cfg.pdp1d = true)) :
      instrOf cfg (.skp (BitVec.ofBool inv ++ y)) (groupWord 26 (BitVec.ofBool inv ++ y)) := by
    refine ⟨?_, rfl⟩
    rw [wellFormed, skipUnion, BitVec.extractLsb'_append_eq_right, hn, Bool.not_false, Bool.true_and, Bool.not_eq_true',
      Bool.and_eq_false_iff, beq_eq_false_iff_ne, or_iff_not_and_not, Bool.not_eq_false, not_not]
    exact fun h => h1d ⟨h.2, h.1⟩
  rw [decodeSkip_append, ← mkWord_eq_groupWord]
  refine instrOf_ite (by rintro rfl; exact ⟨rfl, rfl⟩) fun h1 => instrOf_ite (by rintro rfl; exact ⟨rfl, rfl⟩) fun h2 =>
    instrOf_ite (by rintro rfl; exact ⟨rfl, rfl⟩) fun h3 => instrOf_ite (by rintro rfl; exact ⟨rfl, rfl⟩) fun h4 =>
    instrOf_ite (by rintro rfl; exact ⟨rfl, rfl⟩) fun h5 => instrOf_ite ?pdp1d fun h6 => instrOf_ite ?bare fun h7 =>
    instrOf_ite ?flag fun h8 => instrOf_ite ?switch fun h9 => ?union
  case pdp1d =>
    rintro ⟨rfl, h⟩
    refine instrOf_ite ?_ fun hinv => ?_
    · rintro rfl
      exact ⟨h, rfl⟩
    · rw [Bool.eq_false_iff.mpr hinv]
      exact ⟨h, rfl⟩
  case bare =>
    rintro rfl
    rw [mkWord_eq_groupWord]
    exact hskp rfl h6
  case flag =>
    intro h8
    have hy := flagNumber_split h8
    refine ⟨bne_iff_ne.mpr fun h => h7 ?_, congrArg (mkWord 26 inv) hy⟩
    rw [← hy, h]
    rfl
  case switch =>
    intro h9
    have hy := switchNumber_split h9.1 h9.2
    refine ⟨bne_iff_ne.mpr fun h => h7 ?_, congrArg (mkWord 26 inv) hy⟩
    rw [← hy, h]
    rfl
  case union =>
    rw [mkWord_eq_groupWord]
    refine hskp (Bool.eq_false_iff.mpr fun h => ?_) h6
    rcases (mem_skipNamed_iff y).mp h with h | h | h | h | h | ⟨-, h | h⟩
    all_goals contradiction

/-! ### The shift group (rules R89, R91(f)) -/

theorem decodeShift_sound (bits : BitVec 13) : instrOf cfg (decodeShift bits) (groupWord 27 bits) := by
  have hbits := shiftWord_bits bits
  unfold decodeShift
  dsimp only
  split
  case h_13 h7 h8 =>
    rw [h7, h8] at hbits
    split
    · rename_i h0
      exact ⟨rfl, by rw [h0]; rfl⟩
    · rename_i h0
      refine ⟨?_, hbits⟩
      rw [wellFormed, Bool.or_eq_true, bne_iff_ne, or_iff_not_imp_left]
      rintro hrs hmask
      rw [Bool.or_eq_true, not_or, Bool.not_eq_true, Bool.not_eq_true] at hrs
      rw [hrs.1, hrs.2, hmask] at hbits
      apply h0
      rw [← operandBits_groupWord 27 bits, ← hbits]
      rfl
  all_goals
    rename_i h5 h6 h7 h8
    rw [h5, h6, h7, h8] at hbits
    exact ⟨rfl, hbits⟩

theorem decodeShift_noRegister {right shift : Bool} {mask : BitVec 9} (h : (right || shift || mask != 0) = true) :
    decodeShift (operandBits (shiftWord right shift false false mask)) = .sftNoRegister right shift mask := by
  have hne : operandBits (shiftWord right shift false false mask) ≠ 0 := by
    intro h0
    obtain ⟨h5, h6, -, -, h9⟩ := shiftWord_fields right shift false false mask
    rw [h0] at h5 h6 h9
    rw [← h5, ← h6, ← h9] at h
    exact absurd h (by decide)
  simp only [decodeShift, shiftWord_fields, if_neg hne]

/-! ### The operate group (rules R87, R91(g)) -/

/-- An operate word with bits 5 to 14 given is those and the flag number. -/
theorem flagBits_split {bits : BitVec 13} {high : BitVec 10} (h : bits.extractLsb' 3 10 = high) :
    high ++ bits.extractLsb' 0 3 = bits := by
  rw [← h]
  exact BitVec.extractLsb'_append_extractLsb' (w := 10) (len := 3)

/-- The operate words with a row of their own on both machines: `nop` and `clf`, `stf`, and the single micro-operations
(rule R87). -/
theorem mem_operateNamed_iff (bits : BitVec 13) : operateNamed.contains bits = true ↔
    bits.extractLsb' 3 10 = 0 ∨ bits.extractLsb' 3 10 = 1 ∨ bits = 0o100 ∨ bits = 0o200 ∨ bits = 0o400 ∨ bits = 0o1000 ∨
      bits = 0o2000 ∨ bits = 0o2200 ∨ bits = 0o4000 := by
  constructor
  · intro h
    have hall : (operateNamed.all fun b => b.extractLsb' 3 10 = 0 ∨ b.extractLsb' 3 10 = 1 ∨ b = 0o100 ∨ b = 0o200 ∨
        b = 0o400 ∨ b = 0o1000 ∨ b = 0o2000 ∨ b = 0o2200 ∨ b = 0o4000) = true := by decide
    exact of_decide_eq_true (List.all_eq_true.mp hall bits (List.contains_iff_mem.mp h))
  · have hflag : ∀ f : BitVec 3, operateNamed.contains ((0 : BitVec 10) ++ f) = true ∧
        operateNamed.contains ((1 : BitVec 10) ++ f) = true := by decide
    rintro (h | h | rfl | rfl | rfl | rfl | rfl | rfl | rfl)
    case inl =>
      rw [← flagBits_split h]
      exact (hflag _).1
    case inr.inl =>
      rw [← flagBits_split h]
      exact (hflag _).2
    all_goals rfl

/-- The operate words that the PDP-1D adds (rule R87). -/
theorem mem_operateNamed1d_iff (bits : BitVec 13) : operateNamed1d.contains bits = true ↔
    bits = 0o20 ∨ bits = 0o40 ∨ bits = 0o60 ∨ bits = 0o10000 := by
  simp [operateNamed1d]

theorem operateUnion_iff {bits : BitVec 13} : operateUnion cfg bits = true ↔
    operateNamed.contains bits = false ∧ ¬(operateNamed1d.contains bits = true ∧ cfg.pdp1d = true) := by
  rw [operateUnion, Bool.and_eq_true, Bool.not_eq_true', Bool.not_eq_true', ← Bool.not_eq_true, ← Bool.not_eq_true,
    Bool.and_eq_true, and_comm (a := cfg.pdp1d = true)]

/-- The decoder of the operate group keeps a word that no row names. -/
theorem decodeOperate_union {bits : BitVec 13} (h : operateUnion cfg bits = true) :
    decodeOperate cfg bits = .opr bits := by
  obtain ⟨hn, hn1d⟩ := operateUnion_iff.mp h
  have hnot := (not_congr (mem_operateNamed_iff bits)).mp (Bool.eq_false_iff.mp hn)
  rw [mem_operateNamed1d_iff] at hn1d
  simp only [not_or] at hnot
  obtain ⟨h1, h2, h3, h4, h5, h6, h7, h8, h9⟩ := hnot
  have h0 : bits ≠ 0 := by
    rintro rfl
    exact h1 rfl
  rw [decodeOperate, if_neg h0, if_neg h1, if_neg h2, if_neg h3, if_neg h4, if_neg h5, if_neg h6, if_neg h7, if_neg h8,
    if_neg h9, if_neg fun h => hn1d ⟨.inl h.1, h.2⟩, if_neg fun h => hn1d ⟨.inr (.inl h.1), h.2⟩,
    if_neg fun h => hn1d ⟨.inr (.inr (.inl h.1)), h.2⟩, if_neg fun h => hn1d ⟨.inr (.inr (.inr h.1)), h.2⟩]

theorem decodeOperate_sound (bits : BitVec 13) : instrOf cfg (decodeOperate cfg bits) (groupWord 31 bits) := by
  unfold decodeOperate
  refine instrOf_ite (by rintro rfl; exact ⟨rfl, rfl⟩) fun h0 => instrOf_ite ?clf fun hclf => instrOf_ite ?stf fun hstf =>
    instrOf_ite (by rintro rfl; exact ⟨rfl, rfl⟩) fun h1 => instrOf_ite (by rintro rfl; exact ⟨rfl, rfl⟩) fun h2 =>
    instrOf_ite (by rintro rfl; exact ⟨rfl, rfl⟩) fun h3 => instrOf_ite (by rintro rfl; exact ⟨rfl, rfl⟩) fun h4 =>
    instrOf_ite (by rintro rfl; exact ⟨rfl, rfl⟩) fun h5 => instrOf_ite (by rintro rfl; exact ⟨rfl, rfl⟩) fun h6 =>
    instrOf_ite (by rintro rfl; exact ⟨rfl, rfl⟩) fun h7 => instrOf_ite (by rintro ⟨rfl, h⟩; exact ⟨h, rfl⟩) fun h8 =>
    instrOf_ite (by rintro ⟨rfl, h⟩; exact ⟨h, rfl⟩) fun h9 => instrOf_ite (by rintro ⟨rfl, h⟩; exact ⟨h, rfl⟩) fun h10 =>
    instrOf_ite (by rintro ⟨rfl, h⟩; exact ⟨h, rfl⟩) fun h11 => ?union
  case clf =>
    intro h
    have hbits := flagBits_split h
    refine ⟨bne_iff_ne.mpr fun hf => h0 ?_, congrArg (groupWord 31) hbits⟩
    rw [← hbits, hf]
    rfl
  case stf => exact fun h => ⟨rfl, congrArg (groupWord 31) (flagBits_split h)⟩
  case union =>
    refine ⟨operateUnion_iff.mpr ⟨Bool.eq_false_iff.mpr fun h => ?_, ?_⟩, rfl⟩
    · rcases (mem_operateNamed_iff bits).mp h with h | h | h | h | h | h | h | h | h
      all_goals contradiction
    · rw [mem_operateNamed1d_iff]
      rintro ⟨h | h | h | h, hp⟩
      · exact h8 ⟨h, hp⟩
      · exact h9 ⟨h, hp⟩
      · exact h10 ⟨h, hp⟩
      · exact h11 ⟨h, hp⟩

theorem mem_specialNamed_iff (bits : BitVec 13) : specialNamed.contains bits = true ↔
    bits = 0o2000 ∨ bits = 0o1000 ∨ bits = 0o400 ∨ bits = 0o200 ∨ bits = 0o100 ∨ bits = 0o40 ∨ bits = 0o20 ∨
      bits = 0o10 ∨ bits = 0o4 := by
  simp [specialNamed]

/-- The decoder of code 74 keeps a word that no row names (rule R329). -/
theorem decodeSpecial_unnamed {bits : BitVec 13} (h : specialNamed.contains bits = false) :
    decodeSpecial bits = .special bits := by
  have hnot := (not_congr (mem_specialNamed_iff bits)).mp (Bool.eq_false_iff.mp h)
  simp only [not_or] at hnot
  obtain ⟨h1, h2, h3, h4, h5, h6, h7, h8, h9⟩ := hnot
  rw [decodeSpecial, if_neg h1, if_neg h2, if_neg h3, if_neg h4, if_neg h5, if_neg h6, if_neg h7, if_neg h8, if_neg h9]

theorem decodeSpecial_sound (hp : cfg.pdp1d = true) (bits : BitVec 13) :
    instrOf cfg (decodeSpecial bits) (groupWord 30 bits) := by
  unfold decodeSpecial
  refine instrOf_ite (by rintro rfl; exact ⟨hp, rfl⟩) fun h1 => instrOf_ite (by rintro rfl; exact ⟨hp, rfl⟩) fun h2 =>
    instrOf_ite (by rintro rfl; exact ⟨hp, rfl⟩) fun h3 => instrOf_ite (by rintro rfl; exact ⟨hp, rfl⟩) fun h4 =>
    instrOf_ite (by rintro rfl; exact ⟨hp, rfl⟩) fun h5 => instrOf_ite (by rintro rfl; exact ⟨hp, rfl⟩) fun h6 =>
    instrOf_ite (by rintro rfl; exact ⟨hp, rfl⟩) fun h7 => instrOf_ite (by rintro rfl; exact ⟨hp, rfl⟩) fun h8 =>
    instrOf_ite (by rintro rfl; exact ⟨hp, rfl⟩) fun h9 => ⟨?_, rfl⟩
  have hn : specialNamed.contains bits = false := by
    refine Bool.eq_false_iff.mpr fun h => ?_
    rcases (mem_specialNamed_iff bits).mp h with h | h | h | h | h | h | h | h | h
    all_goals contradiction
  rw [wellFormed, hp, hn]
  rfl

/-! ### The rows of the in-out list (rule R220) -/

/-- Every row of the in-out list matches an operation code 72, a whole device field and some bits of the control field, and
ignores the wait bit (rule R220(a)). -/
theorem iotRows_shape : iotRows.all (fun r => r.pattern = iotWord false (ctlField r.pattern) (devField r.pattern) ∧
    opField r.mask = 31 ∧ iBit r.mask = false ∧ devField r.mask = BitVec.allOnes 6) = true := by decide

theorem opField_and (v w : Word) : opField (v &&& w) = opField v &&& opField w := BitVec.extractLsb'_and

theorem ctlField_and (v w : Word) : ctlField (v &&& w) = ctlField v &&& ctlField w := BitVec.extractLsb'_and

theorem devField_and (v w : Word) : devField (v &&& w) = devField v &&& devField w := BitVec.extractLsb'_and

theorem iBit_and (v w : Word) : iBit (v &&& w) = (iBit v && iBit w) := BitVec.getLsbD_and

/-- A row claims an in-out word by its device field and the bits of the control field under the row's mask. -/
theorem claims_iotWord {r : IotRow} (hr : r ∈ iotRows) (wait : Bool) (ctl dev : BitVec 6) :
    r.claims (iotWord wait ctl dev) = true ↔ dev = devField r.pattern ∧ ctl &&& ctlField r.mask = ctlField r.pattern := by
  obtain ⟨hp, hop, hi, hdev⟩ := of_decide_eq_true (List.all_eq_true.mp iotRows_shape r hr)
  have hop : opField (iotWord wait ctl dev &&& r.mask) = 29 := by
    rw [opField_and, opField_iotWord, hop]
    rfl
  have hand : iotWord wait ctl dev &&& r.mask = iotWord false (ctl &&& ctlField r.mask) dev := by
    rw [← iotWord_fields hop, iBit_and, ctlField_and, devField_and, iBit_iotWord, ctlField_iotWord, devField_iotWord, hi,
      hdev, Bool.and_false, BitVec.and_allOnes]
  rw [IotRow.claims, beq_iff_eq, hand]
  constructor
  · intro h
    have hc := congrArg ctlField h
    have hd := congrArg devField h
    rw [ctlField_iotWord] at hc
    rw [devField_iotWord] at hd
    exact ⟨hd, hc⟩
  · rintro ⟨hd, hc⟩
    rw [hd, hc, ← hp]

/-- An option claims an in-out word where one of its rows does. -/
theorem optClaims_iotWord (o : Opt) (wait : Bool) (ctl dev : BitVec 6) : optClaims o (iotWord wait ctl dev) = true ↔
    ∃ r ∈ iotRows, r.opt = o ∧ dev = devField r.pattern ∧ ctl &&& ctlField r.mask = ctlField r.pattern := by
  rw [optClaims, List.any_eq_true]
  refine exists_congr fun r => and_congr_right fun hr => ?_
  rw [Bool.and_eq_true, beq_iff_eq, claims_iotWord hr]

/-- What a row's mask leaves of a control field: both digits, or one. -/
theorem digits_under_mask (c : BitVec 6) : c &&& 0o77#6 = c ∧ (c &&& 0o07#6 = 0#6 ↔ c.extractLsb' 0 3 = 0#3) ∧
    (c &&& 0o70#6 = 0#6 ↔ c.extractLsb' 3 3 = 0#3) ∧ (c &&& 0o70#6 = 0o10#6 ↔ c.extractLsb' 3 3 = 1#3) := by
  revert c
  decide

/-- Every word that a row of the option claims has a row in the decoder. -/
theorem rowOf_isSome {o : Opt} {wait : Bool} {ctl dev : BitVec 6} (h : optClaims o (iotWord wait ctl dev) = true) :
    (rowOf cfg o wait ctl dev).isSome = true := by
  rw [optClaims_iotWord] at h
  obtain ⟨hall, hlow, hhigh, hhigh1⟩ := digits_under_mask ctl
  simp [iotRows, iotStandard, iotOptional, iotPdp1d, devField, ctlField, hall, hlow, hhigh, hhigh1] at h
  cases o
  all_goals
    simp at h
    simp [rowOf, apply_ite Option.isSome]
    grind

/-- The row, where there is one, is an instruction of the configuration with that word. -/
def rowFits (cfg : Config) (w : Word) (r : Option Instr) : Prop := ∀ i, r = some i → instrOf cfg i w

section
variable {o : Opt} {wait : Bool} {ctl dev d : BitVec 6} {i : Instr} {r : Option Instr}

theorem rowFits_none {w : Word} : rowFits cfg w none := fun _ h => nomatch h

theorem rowFits_ite {w : Word} {c : Prop} [Decidable c] (hi : c → instrOf cfg i w) (hr : ¬c → rowFits cfg w r) :
    rowFits cfg w (if c then some i else r) := by
  split
  · rename_i hc
    rintro j ⟨⟩
    exact hi hc
  · exact hr ‹_›

variable (ho : soleClaim cfg o (iotWord wait ctl dev) = true)
include ho

/-- A row with a fixed control field. -/
theorem rowFits_fixed {c : BitVec 6} (hword : encode i = iotWord wait c d)
    (hwf : wellFormed cfg i = soleClaim cfg o (iotWord wait c d)) (hr : rowFits cfg (iotWord wait ctl dev) r) :
    rowFits cfg (iotWord wait ctl dev) (if dev = d ∧ ctl = c then some i else r) := by
  refine rowFits_ite ?_ fun _ => hr
  rintro ⟨rfl, rfl⟩
  exact ⟨hwf.trans ho, hword⟩

/-- A row with any control field. -/
theorem rowFits_field (hword : encode i = iotWord wait ctl d)
    (hwf : wellFormed cfg i = soleClaim cfg o (iotWord wait ctl d)) (hr : rowFits cfg (iotWord wait ctl dev) r) :
    rowFits cfg (iotWord wait ctl dev) (if dev = d then some i else r) := by
  refine rowFits_ite ?_ fun _ => hr
  rintro rfl
  exact ⟨hwf.trans ho, hword⟩

/-- A row with two operand digits. -/
theorem rowFits_digits (hword : encode i = iotWord wait (ctl.extractLsb' 3 3 ++ ctl.extractLsb' 0 3) d)
    (hwf : wellFormed cfg i = soleClaim cfg o (iotWord wait (ctl.extractLsb' 3 3 ++ ctl.extractLsb' 0 3) d))
    (hr : rowFits cfg (iotWord wait ctl dev) r) :
    rowFits cfg (iotWord wait ctl dev) (if dev = d then some i else r) := by
  rw [digits_split] at hword hwf
  exact rowFits_field ho hword hwf hr

/-- A row with a high operand digit and a fixed low one. -/
theorem rowFits_high {n : BitVec 3} (hword : encode i = iotWord wait (ctl.extractLsb' 3 3 ++ n) d)
    (hwf : wellFormed cfg i = soleClaim cfg o (iotWord wait (ctl.extractLsb' 3 3 ++ n) d))
    (hr : rowFits cfg (iotWord wait ctl dev) r) :
    rowFits cfg (iotWord wait ctl dev) (if dev = d ∧ ctl.extractLsb' 0 3 = n then some i else r) := by
  refine rowFits_ite ?_ fun _ => hr
  rintro ⟨rfl, rfl⟩
  rw [digits_split] at hword hwf
  exact ⟨hwf.trans ho, hword⟩

/-- A row with a low operand digit and a fixed high one. -/
theorem rowFits_low {n : BitVec 3} (hword : encode i = iotWord wait (n ++ ctl.extractLsb' 0 3) d)
    (hwf : wellFormed cfg i = soleClaim cfg o (iotWord wait (n ++ ctl.extractLsb' 0 3) d))
    (hr : rowFits cfg (iotWord wait ctl dev) r) :
    rowFits cfg (iotWord wait ctl dev) (if dev = d ∧ ctl.extractLsb' 3 3 = n then some i else r) := by
  refine rowFits_ite ?_ fun _ => hr
  rintro ⟨rfl, rfl⟩
  rw [digits_split] at hword hwf
  exact ⟨hwf.trans ho, hword⟩

end

/-- The class 72u067 of Type 52: with a second digit `inr`, else the name that the configuration reports. -/
theorem type52Row_fits {wait : Bool} {u r : BitVec 3} (ho : soleClaim cfg .type52 (iotWord wait (u ++ r) 0o67) = true) :
    instrOf cfg (type52Row cfg wait u r) (iotWord wait (u ++ r) 0o67) := by
  unfold type52Row
  refine instrOf_ite ?_ fun hr => ⟨?_, rfl⟩
  · rintro rfl
    cases hn : cfg.type52Name
    all_goals exact ⟨by rw [wellFormed, ho, hn]; rfl, rfl⟩
  · rw [wellFormed, ho, bne_iff_ne.mpr hr]
    rfl

theorem rowOf_fits {o : Opt} {wait : Bool} {ctl dev : BitVec 6} (ho : soleClaim cfg o (iotWord wait ctl dev) = true) :
    rowFits cfg (iotWord wait ctl dev) (rowOf cfg o wait ctl dev) := by
  cases o with
  | reader => exact rowFits_fixed ho rfl rfl (rowFits_fixed ho rfl rfl (rowFits_fixed ho rfl rfl rowFits_none))
  | punch => exact rowFits_fixed ho rfl rfl (rowFits_fixed ho rfl rfl rowFits_none)
  | typewriter => exact rowFits_fixed ho rfl rfl (rowFits_fixed ho rfl rfl rowFits_none)
  | type120 =>
    exact rowFits_fixed ho rfl rfl (rowFits_fixed ho rfl rfl (rowFits_fixed ho rfl rfl (rowFits_fixed ho rfl rfl
      (rowFits_digits ho rfl rfl (rowFits_digits ho rfl rfl (rowFits_digits ho rfl rfl rowFits_none))))))
  | type131 =>
    exact rowFits_fixed ho rfl rfl (rowFits_fixed ho rfl rfl (rowFits_fixed ho rfl rfl (rowFits_fixed ho rfl rfl
      (rowFits_high ho rfl rfl rowFits_none))))
  | type30 => exact rowFits_low ho rfl rfl rowFits_none
  | type33 =>
    exact rowFits_fixed ho rfl rfl (rowFits_fixed ho rfl rfl (rowFits_fixed ho rfl rfl (rowFits_fixed ho rfl rfl
      (rowFits_fixed ho rfl rfl rowFits_none))))
  | type31 => exact rowFits_fixed ho rfl rfl rowFits_none
  | type40 => exact rowFits_fixed ho rfl rfl (rowFits_fixed ho rfl rfl rowFits_none)
  | type421 => exact rowFits_fixed ho rfl rfl (rowFits_fixed ho rfl rfl (rowFits_fixed ho rfl rfl rowFits_none))
  | type51 =>
    exact rowFits_fixed ho rfl rfl (rowFits_fixed ho rfl rfl (rowFits_fixed ho rfl rfl (rowFits_fixed ho rfl rfl
      (rowFits_fixed ho rfl rfl rowFits_none))))
  | type52 =>
    refine rowFits_high ho rfl rfl (rowFits_high ho rfl rfl (rowFits_digits ho rfl rfl (rowFits_digits ho rfl rfl
      (rowFits_digits ho rfl rfl (rowFits_ite ?_ fun _ => rowFits_none)))))
    rintro rfl
    rw [← digits_split ctl] at ho ⊢
    simpa using type52Row_fits ho
  | type510 =>
    exact rowFits_fixed ho rfl rfl (rowFits_fixed ho rfl rfl (rowFits_fixed ho rfl rfl (rowFits_fixed ho rfl rfl
      (rowFits_fixed ho rfl rfl (rowFits_field ho rfl rfl (rowFits_field ho rfl rfl rowFits_none))))))
  | type138 =>
    exact rowFits_fixed ho rfl rfl (rowFits_fixed ho rfl rfl (rowFits_fixed ho rfl rfl (rowFits_field ho rfl rfl
      rowFits_none)))
  | type64 => exact rowFits_fixed ho rfl rfl (rowFits_fixed ho rfl rfl (rowFits_low ho rfl rfl rowFits_none))
  | type23 =>
    refine rowFits_ite ?dba fun hdba => rowFits_ite ?dra fun hdra => rowFits_ite ?dia fun _ => rowFits_ite ?dwc fun _ =>
      rowFits_field ho rfl rfl rowFits_none
    case dba =>
      rintro ⟨rfl, rfl⟩
      exact ⟨ho, rfl⟩
    case dra =>
      rintro ⟨rfl, rfl⟩
      exact ⟨ho, rfl⟩
    case dia =>
      rintro rfl
      exact ⟨Bool.and_eq_true_iff.mpr ⟨ho, bne_iff_ne.mpr fun h => hdba ⟨rfl, h⟩⟩, rfl⟩
    case dwc =>
      rintro rfl
      exact ⟨Bool.and_eq_true_iff.mpr ⟨ho, bne_iff_ne.mpr fun h => hdra ⟨rfl, h⟩⟩, rfl⟩
  | type630 =>
    exact rowFits_fixed ho rfl rfl (rowFits_fixed ho rfl rfl (rowFits_fixed ho rfl rfl (rowFits_fixed ho rfl rfl
      (rowFits_fixed ho rfl rfl (rowFits_fixed ho rfl rfl (rowFits_fixed ho rfl rfl rowFits_none))))))
  | spacewar => exact rowFits_fixed ho rfl rfl rowFits_none
  | pdp1dInOut =>
    exact rowFits_fixed ho rfl rfl (rowFits_fixed ho rfl rfl (rowFits_fixed ho rfl rfl (rowFits_fixed ho rfl rfl
      (rowFits_fixed ho rfl rfl (rowFits_fixed ho rfl rfl (rowFits_fixed ho rfl rfl (rowFits_field ho rfl rfl
      (rowFits_field ho rfl rfl (rowFits_field ho rfl rfl (rowFits_field ho rfl rfl rowFits_none))))))))))

/-- What the decoder of the in-out group answers is well-formed and has that word. -/
theorem decodeIot_sound {w : Word} (hop : opField w = 29) : instrOf cfg (decodeIot cfg w) w := by
  have hw : mkWord 29 (iBit w) (addrPart w) = w := by rw [← hop, mkWord_fields]
  unfold decodeIot
  refine instrOf_ite ?_ fun hio => ?_
  · rintro rfl
    exact ⟨rfl, rfl⟩
  · split
    · rename_i o hc
      rw [← iotWord_fields hop] at hc
      obtain ⟨i, hi⟩ := Option.isSome_iff_exists.mp (rowOf_isSome (cfg := cfg) (optClaims_of_claimants hc))
      rw [hi, Option.getD_some]
      have := rowOf_fits (soleClaim_iff.mpr hc) i hi
      rwa [iotWord_fields hop] at this
    · rename_i hne
      refine ⟨?_, hw⟩
      rw [wellFormed, iotUnnamed, hw, Bool.and_eq_true, Bool.not_eq_true', bne_iff_ne]
      refine ⟨Bool.eq_false_iff.mpr fun h => hio ?_, fun h => ?_⟩
      · obtain ⟨hi, hy⟩ := Bool.and_eq_true_iff.mp h
        rw [← hw, hi, beq_iff_eq.mp hy]
        rfl
      · obtain ⟨o, ho⟩ := List.length_eq_one_iff.mp h
        exact hne o ho

/-! ### The two round trips -/

theorem instrOf_mkWord {n : Nat} {w : Word} {i : Instr} (hn : (opField w).toNat = n) (hwf : wellFormed cfg i = true)
    (hi : encode i = mkWord (BitVec.ofNat 5 n) (iBit w) (addrPart w)) : instrOf cfg i w := by
  refine ⟨hwf, hi.trans ?_⟩
  rw [← hn, BitVec.ofNat_toNat, BitVec.setWidth_eq, mkWord_fields]

theorem instrOf_groupWord {n : Nat} {w : Word} {i : Instr} (hn : (opField w).toNat = n)
    (hi : instrOf cfg i (groupWord (BitVec.ofNat 5 n) (operandBits w))) : instrOf cfg i w := by
  rwa [← hn, BitVec.ofNat_toNat, BitVec.setWidth_eq, groupWord_fields] at hi

/-- The decoder by the operation code (rule R91): what it answers is well-formed and has the word as its word. -/
theorem decode_sound (w : Word) : instrOf cfg (decode cfg w) w := by
  have hop : (opField w).toNat < 32 := (opField w).isLt
  unfold decode
  dsimp only
  split <;> rename_i hn
  -- the codes of one instruction with an i-bit and an address
  case h_2 | h_3 | h_4 | h_5 | h_9 | h_10 | h_11 | h_12 | h_13 | h_14 | h_15 | h_17 | h_18 | h_19 | h_20 | h_21 | h_22 |
      h_25 | h_26 => exact instrOf_mkWord hn rfl rfl
  case h_1 => exact instrOf_groupWord hn ⟨rfl, rfl⟩
  -- the codes that the PDP-1D assigns
  case h_6 | h_7 | h_16 =>
    refine instrOf_ite (fun h => instrOf_mkWord hn h rfl) fun h => instrOf_groupWord hn ⟨?_, rfl⟩
    rw [wellFormed, Bool.eq_false_iff.mpr h]
    rfl
  -- `cal` and `jda`, `law` and `law -N`
  case h_8 | h_29 =>
    refine instrOf_ite (fun h => instrOf_mkWord hn rfl ?_) fun h => instrOf_mkWord hn rfl ?_
    · rw [h]
      rfl
    · rw [Bool.eq_false_iff.mpr h]
      rfl
  -- the codes of the Type 10 option
  case h_23 | h_24 =>
    refine instrOf_ite (fun h => instrOf_mkWord hn h rfl) fun h => instrOf_mkWord hn ?_ rfl
    rw [wellFormed, Bool.eq_false_iff.mpr h]
    rfl
  -- the groups
  case h_27 => exact instrOf_groupWord hn (decodeSkip_sound _)
  case h_28 => exact instrOf_groupWord hn (decodeShift_sound _)
  case h_30 => exact decodeIot_sound (BitVec.eq_of_toNat_eq hn)
  case h_31 =>
    refine instrOf_ite (fun h => instrOf_groupWord hn (decodeSpecial_sound h _)) fun h => instrOf_groupWord hn ⟨?_, rfl⟩
    rw [wellFormed, Bool.eq_false_iff.mpr h]
    rfl
  case h_32 =>
    have h31 : (opField w).toNat = 31 := by
      simp only [imp_false] at *
      omega
    exact instrOf_groupWord h31 (decodeOperate_sound _)

/-- Settles O2: by the decoder's operation codes and groups (`decode_sound`). -/
theorem encodeDecodeAgree : Obligations.EncodeDecodeAgree := fun _ w => decode_sound w

theorem decodeOperate_clf {f : BitVec 3} (hf : f ≠ 0) : decodeOperate cfg ((0 : BitVec 10) ++ f) = .clf f := by
  have h0 : ∀ f : BitVec 3, f ≠ 0 → (0 : BitVec 10) ++ f ≠ 0 := by decide
  rw [decodeOperate, if_neg (h0 f hf), if_pos BitVec.extractLsb'_append_eq_left, BitVec.extractLsb'_append_eq_right]

theorem decodeOperate_stf (f : BitVec 3) : decodeOperate cfg ((1 : BitVec 10) ++ f) = .stf f := by
  have h : ∀ f : BitVec 3, (1 : BitVec 10) ++ f ≠ 0 ∧ ((1 : BitVec 10) ++ f).extractLsb' 3 10 ≠ 0 := by decide
  rw [decodeOperate, if_neg (h f).1, if_neg (h f).2, if_pos BitVec.extractLsb'_append_eq_left,
    BitVec.extractLsb'_append_eq_right]

theorem decode_skip_group (bits : BitVec 13) : decode cfg (groupWord 26 bits) = decodeSkip cfg bits := by
  simp [decode]

theorem decode_skip_mkWord (inv : Bool) (y : Addr) :
    decode cfg (mkWord 26 inv y) = decodeSkip cfg (BitVec.ofBool inv ++ y) := by
  rw [mkWord_eq_groupWord, decode_skip_group]

theorem decode_shiftWord (right shift io ac : Bool) (mask : BitVec 9) : decode cfg (shiftWord right shift io ac mask) =
    decodeShift (operandBits (shiftWord right shift io ac mask)) := by
  simp [decode, shiftWord]

theorem decode_operate_group (bits : BitVec 13) : decode cfg (groupWord 31 bits) = decodeOperate cfg bits := by
  simp [decode]

theorem decode_special_group (h : cfg.pdp1d = true) (bits : BitVec 13) :
    decode cfg (groupWord 30 bits) = decodeSpecial bits := by
  simp [decode, h]

theorem decode_encode {i : Instr} (h : wellFormed cfg i = true) : decode cfg (encode i) = i := by
  cases i with
  | and | ior | xor | xct | lac | lio | dac | dap | dip | dio | dzm | add | sub | idx | isp | sad | sas | jmp | jsp | cal
  | jda | law | lawNeg | spare00 => simp [decode, encode]
  | mul | div | lch | dch | tad | mus | dis | spare12 | spare14 | spare36 | spare74 =>
    rw [wellFormed] at h
    simp_all [decode, encode]
  -- the skip group
  | sma inv | spa inv | spi inv | sza inv | szo inv =>
    rw [encode, decode_skip_mkWord, decodeSkip_append]
    rfl
  | szf inv f =>
    rw [encode, decode_skip_mkWord]
    exact decodeSkip_flag inv (bne_iff_ne.mp h)
  | szs inv n =>
    rw [encode, decode_skip_mkWord]
    exact decodeSkip_switch inv (bne_iff_ne.mp h)
  | sni | szi =>
    rw [encode, decode_skip_mkWord, decodeSkip_append, show cfg.pdp1d = true from h]
    rfl
  | skp bits =>
    rw [encode, decode_skip_group]
    exact decodeSkip_union h
  -- the shift group
  | ral | rar | rcl | rcr | ril | rir | sal | sar | scl | scr | sil | sir =>
    rw [encode, decode_shiftWord]
    simp only [decodeShift, shiftWord_fields]
  | sft bits =>
    obtain rfl : bits = 0 := beq_iff_eq.mp h
    rfl
  | sftNoRegister =>
    rw [encode, decode_shiftWord]
    exact decodeShift_noRegister h
  -- the operate group
  | nop | cla | cli | cma | hlt | lap => rfl
  | lat clear => cases clear <;> rfl
  | clf f =>
    rw [encode, decode_operate_group]
    exact decodeOperate_clf (bne_iff_ne.mp h)
  | stf f =>
    rw [encode, decode_operate_group]
    exact decodeOperate_stf f
  | opr bits =>
    rw [encode, decode_operate_group]
    exact decodeOperate_union h
  | lia | lai | swp | cmi =>
    rw [encode, decode_operate_group, decodeOperate, show cfg.pdp1d = true from h]
    rfl
  -- code 74
  | ifi | idc | ida | scm | sci | scf | szl | cll | cml => exact decode_special_group h _
  | special bits =>
    obtain ⟨hp, hn⟩ := Bool.and_eq_true_iff.mp h
    rw [encode, decode_special_group hp]
    exact decodeSpecial_unnamed (by simpa using hn)
  -- the in-out group
  | ioh => rfl
  | iot wait y => exact decode_iot h
  -- rows with operand digits
  | dsc | asc | isb | muf | mic | mri => exact decode_of_row h (by simp [rowOf])
  | dpy | mes | mel => exact decode_of_row h (by simp [rowOf])
  | swc wait x =>
    have hx : ∀ x : BitVec 3, x ++ 0#3 ≠ 3#6 ∧ x ++ 0#3 ≠ 1#6 ∧ x ++ 0#3 ≠ 4#6 := by decide
    exact decode_of_row h (by simp [rowOf, hx])
  | pas wait x =>
    have hx : ∀ x : BitVec 3, 1#3 ++ x ≠ 0o20#6 ∧ 1#3 ++ x ≠ 0#6 := by decide
    exact decode_of_row h (by simp [rowOf, hx])
  | inr wait u r =>
    obtain ⟨ho, hn⟩ := Bool.and_eq_true_iff.mp h
    refine decode_of_row ho ?_
    by_cases hr : r = 0
    · have hname : cfg.type52Name = .inr := by simpa [hr] using hn
      simp [rowOf, type52Row, hr, hname]
    · simp [rowOf, type52Row, show ¬r = 0#3 from hr]
  | mrf | ccr =>
    obtain ⟨ho, hn⟩ := Bool.and_eq_true_iff.mp h
    exact decode_of_row ho (by simp_all [rowOf, type52Row])
  | dur | mtf | scv | dcl | rck | ctb | rro | rri => exact decode_of_row h (by simp [rowOf])
  | dia | dwc =>
    obtain ⟨ho, hne⟩ := Bool.and_eq_true_iff.mp h
    exact decode_of_row ho (by simp_all [rowOf])
  -- rows with a fixed word
  | _ => exact decode_of_row h rfl

/-- Settles O1: by the constructors, each from its operation code and the decoder of its group (`decode_encode`). -/
theorem decodeEncodeAgree : Obligations.DecodeEncodeAgree := fun _ _ h => decode_encode h

/-- Settles O3: the words of 95_test_vectors.md section 2.1, each decoded by evaluation. -/
theorem decodingIsRight : Obligations.DecodingIsRight := by
  unfold Obligations.DecodingIsRight
  decide

end Sys2Proof
end

section
/-! PROOFS. The operate group (42_operate_group.md; `lia`, `lai`, `swp`, `cmi` of 47_pdp1d.md): each conditional
micro-operation as one record update, and an operate word as the updates in their order. -/

namespace Sys2Proof.Machine

section
variable (s : State) (c : Bool)

theorem State.doIf_clearIo : s.doIf c State.clearIo = { s with io := if c then 0 else s.io } := by
  cases c <;> rfl

theorem State.doIf_clearAc : s.doIf c State.clearAc = { s with ac := if c then 0 else s.ac } := by
  cases c <;> rfl

theorem State.doIf_orTestWord : s.doIf c State.orTestWord = { s with ac := s.ac ||| if c then s.tw else 0 } := by
  cases c with
  | false => simp [State.doIf]
  | true => rfl

theorem State.doIf_orPcword : s.doIf c State.orPcword = { s with ac := s.ac ||| if c then s.pcword else 0 } := by
  cases c with
  | false => simp [State.doIf]
  | true => rfl

theorem State.doIf_complementAc : s.doIf c State.complementAc = { s with ac := if c then ~~~s.ac else s.ac } := by
  cases c <;> rfl

theorem State.doIf_complementIo : s.doIf c State.complementIo = { s with io := if c then ~~~s.io else s.io } := by
  cases c <;> rfl

theorem State.doIf_exchange (lia lai : Bool) : (s.doIf c fun t => t.exchange lia lai) =
    { s with io := if c && lia then s.ac else s.io, ac := if c && lai then s.io else s.ac } := by
  cases c <;> rfl

theorem State.doIf_halt : s.doIf c State.halt = { s with run := s.run && !c } := by
  cases c with
  | false => simp [State.doIf]
  | true => simp [State.doIf, State.halt]

end

/-- Settles O36: the micro-operations of an operate word as record updates, in the order of rule R161. -/
theorem operateUnion : Obligations.OperateUnion := by
  intro s bits
  refine congrArg Host.Outcome.next ?_
  rw [operate]
  simp only [State.doIf_clearIo, State.doIf_clearAc, State.doIf_orTestWord, State.doIf_orPcword, State.doIf_complementAc,
    State.doIf_complementIo, State.doIf_exchange, State.doIf_halt, State.setFlags]
  rfl

/-- Settles O33. -/
theorem operateSingles : Obligations.OperateSingles :=
  ⟨fun _ => ⟨rfl, rfl, rfl, rfl, rfl⟩, rfl, rfl, rfl, rfl, rfl⟩

/-- Settles O38. -/
theorem exchangeInstructions : Obligations.ExchangeInstructions :=
  ⟨fun _ => ⟨rfl, rfl, rfl, rfl⟩, rfl, rfl, rfl, rfl⟩

/-- Settles O35: a transfer is its conditional clear of AC and the inclusive OR. -/
theorem transferInstructions : Obligations.TransferInstructions := by
  refine ⟨fun s => ⟨?lap, ?latClear, rfl⟩, rfl, rfl, rfl⟩
  case lap =>
    show Host.Outcome.next (s.doIf s.cfg.lapClears State.clearAc).orPcword = _
    rw [State.doIf_clearAc]
    rfl
  case latClear =>
    show Host.Outcome.next { s with ac := 0 ||| s.tw } = _
    rw [show (0 : Word) ||| s.tw = s.tw from BitVec.zero_or]

/-- What a flag number selects: its own cell, all six for 7, none for 0 (rules R163, R170). -/
theorem cell_setSelected (c : Six) (f : BitVec 3) (v : Bool) {k : Nat} (h1 : 1 ≤ k) (h6 : k ≤ 6) :
    cell (setSelected c f v) k = if f.toNat = k ∨ f.toNat = 7 then v else cell c k := by
  have hf : f.toNat < 8 := f.isLt
  unfold setSelected
  generalize f.toNat = n at hf ⊢
  interval_cases n
  all_goals
    interval_cases k
    all_goals rfl

/-- Settles O34: by what a flag number selects (`cell_setSelected`). -/
theorem flagInstructions : Obligations.FlagInstructions := fun s f =>
  ⟨s.setFlags f false, s.setFlags f true, rfl, rfl, rfl, rfl, fun _ h1 h6 =>
    ⟨cell_setSelected s.pf f false h1 h6, cell_setSelected s.pf f true h1 h6⟩⟩

end Sys2Proof.Machine
end

section
/-! PROOFS. The skip group (43_skip_group.md; `sni` and `szi` of 47_pdp1d.md): a skip as one record update, and the conditions
in the words of the spec. -/

namespace Sys2Proof.Machine

theorem State.skipOn_eq (s : State) (inv c : Bool) : s.skipOn inv c = { s with pc := if c != inv then s.pc + 1 else s.pc } :=
  State.skipIf_eq s (c != inv)

theorem allZero_iff (c : Six) : allZero c = true ↔ ∀ k, 1 ≤ k → k ≤ 6 → cell c k = false := by
  constructor
  · intro h k h1 h6
    simp only [allZero, Bool.not_eq_true', Bool.or_eq_false_iff] at h
    obtain ⟨⟨⟨⟨⟨hone, htwo⟩, hthree⟩, hfour⟩, hfive⟩, hsix⟩ := h
    interval_cases k <;> assumption
  · intro h
    have h1 : c.one = false := h 1 (by decide) (by decide)
    have h2 : c.two = false := h 2 (by decide) (by decide)
    have h3 : c.three = false := h 3 (by decide) (by decide)
    have h4 : c.four = false := h 4 (by decide) (by decide)
    have h5 : c.five = false := h 5 (by decide) (by decide)
    have h6 : c.six = false := h 6 (by decide) (by decide)
    simp [allZero, h1, h2, h3, h4, h5, h6]

/-- The condition of `szf` and `szs` is the one the spec words by the number (rules R185, R187). -/
theorem selectedZero_iff (c : Six) (n : BitVec 3) : selectedZero c n = true ↔ zeroSelected c n.toNat := by
  have hlt : n.toNat < 8 := n.isLt
  unfold selectedZero zeroSelected
  by_cases h0 : n = 0
  · simp [h0]
  · have h0' : n.toNat ≠ 0 := fun h => h0 (BitVec.eq_of_toNat_eq h)
    by_cases h7 : n = 7
    · subst h7
      simpa using allZero_iff c
    · have h7' : n.toNat ≠ 7 := fun h => h7 (BitVec.eq_of_toNat_eq h)
      rw [if_neg h0, if_neg h7, Bool.not_eq_true']
      constructor
      · exact fun h => .inl ⟨by omega, by omega, h⟩
      · rintro (⟨-, -, h⟩ | ⟨h, -⟩)
        · exact h
        · exact absurd h h7'

/-- Settles O39: each named skip as one record update (`State.skipOn_eq`, `exec_szo`). -/
theorem skipInstructions : Obligations.SkipInstructions := by
  intro s
  have hnot : ∀ c inv : Bool, (!(c != inv)) = ((!c) != inv) := by decide
  refine ⟨fun inv => ⟨?sma, ?spa, ?spi, ?sza, ?szo⟩, fun inv f => ⟨_, selectedZero_iff s.pf f, ?szf⟩,
    fun inv n => ⟨_, selectedZero_iff s.ss n, ?szs⟩, ?sni, ?szi⟩
  case sma | sza | szf | szs => exact congrArg Host.Outcome.next (State.skipOn_eq s inv _)
  case spa | spi =>
    rw [hnot]
    exact congrArg Host.Outcome.next (State.skipOn_eq s inv _)
  case szo =>
    rw [hnot]
    exact exec_szo inv s
  case sni =>
    refine congrArg Host.Outcome.next ((State.skipOn_eq s false s.ioNonZero).trans ?_)
    simp [State.ioNonZero]
  case szi =>
    refine congrArg Host.Outcome.next ((State.skipOn_eq s true s.ioNonZero).trans ?_)
    simp [State.ioNonZero]

/-- Settles O41: the condition of a skip word is the inclusive OR of the selected ones, and the word is one record update
(`exec_skp`). -/
theorem skipUnion : Obligations.SkipUnion := by
  intro s bits
  refine ⟨skipCondition bits s, ?condition, ?word⟩
  case condition =>
    simp only [skipCondition, State.acZero, State.acPlus, State.acMinus, State.ovZero, State.ioPlus, State.ioNonZero,
      Bool.or_eq_true, Bool.and_eq_true, Bool.not_eq_true', beq_iff_eq, bne_iff_ne, selectedZero_iff, or_assoc, and_assoc]
  case word => rw [exec_skp, Bool.and_comm]

end Sys2Proof.Machine
end

section
/-! PROOFS. What an instruction can change, said once (10_state.md): the registers, the program flags by the operate group,
one word of memory by a storing instruction, and what an in-out transfer changes. The whole-machine rules follow from it. -/

namespace Sys2Proof.Machine

/-- From s to t nothing changes but the registers AC, IO, PC and MB, OV and RUN. -/
def registersOnly (s t : State) : Prop :=
  t = { s with ac := t.ac, io := t.io, pc := t.pc, ov := t.ov, mb := t.mb, run := t.run }

/-- What an instruction other than `xct` can do from s to t. -/
inductive Effect (i : Instr) (s t : State) : Prop where
  | registers (h : registersOnly s t)
  | flags (hi : writesFlags i = true) (pf : Six) (h : registersOnly { s with pf := pf } t)
  | store (hi : stores i = true) (a : Addr) (v : Word) (h : registersOnly (s.writeWord a v) t)
  | transfer (hi : inOutInstr i = true) (m : Word) (h : { s with mb := m }.inOut (encode i) = .next t)

theorem registersOnly_skipIf {s t : State} (h : registersOnly s t) (c : Bool) : registersOnly s (t.skipIf c) := by
  rw [State.skipIf_eq, registersOnly, h]

theorem execSft_registersOnly (bits : BitVec 13) (s : State) : allNext (execSft bits s) (registersOnly s) := by
  unfold execSft
  split
  all_goals exact allNext_next.mpr rfl

/-- The word of an in-out instruction is of operation code 72. -/
theorem inOutInstr_of_encode {i : Instr} {wait : Bool} {y : Addr} (h : encode i = mkWord 29 wait y) :
    inOutInstr i = true := by
  rw [inOutInstr, h, opField_mkWord]
  rfl

theorem exec_effect_of_ne_xct (i : Instr) (s : State) (hx : ∀ j z, i ≠ .xct j z) : allNext (exec i s) (Effect i s) := by
  cases i with
  | xct d y => exact absurd rfl (hx d y)
  -- an address, then registers
  | and | ior | xor | lac | lio | add | sub | mus | dis | jmp | jsp =>
    exact allNext_withAddress fun _ _ => allNext_next.mpr (.registers rfl)
  | mul | div =>
    exact allNext_withAddress fun _ _ => allNext_ite (allNext_next.mpr (.registers rfl)) (allNext_next.mpr (.registers rfl))
  | sad | sas =>
    exact allNext_withAddress fun _ _ => allNext_next.mpr (.registers (registersOnly_skipIf (by rfl) _))
  -- an address, then a store
  | dzm => exact allNext_withAddress fun e _ => allNext_next.mpr (.store rfl e 0 rfl)
  | dac | dap | dip | dio | idx =>
    exact allNext_withAddress fun _ _ => allNext_next.mpr (.store rfl _ _ rfl)
  | isp => exact allNext_withAddress fun _ _ => allNext_next.mpr (.store rfl _ _ (registersOnly_skipIf (by rfl) _))
  | cal | jda => exact allNext_next.mpr (.store rfl _ _ rfl)
  -- registers
  | law | lawNeg | nop | cla | cli | cma | lia | lai | swp | cmi | ral | rar | rcl | rcr | ril | rir | sal | sar | scl
  | scr | sil | sir | sftNoRegister | hlt | spare00 | spare12 | spare14 | spare36 | spare74 =>
    exact allNext_next.mpr (.registers rfl)
  | sft bits => exact fun t h => .registers (execSft_registersOnly bits s t h)
  | sma | spa | spi | sza | szf | szs | sni | szi | szo =>
    exact allNext_next.mpr (.registers (registersOnly_skipIf (by rfl) _))
  | skp bits =>
    rw [exec_skp]
    exact allNext_next.mpr (.registers rfl)
  | lap =>
    refine allNext_next.mpr (.registers ?_)
    rw [State.doIf_clearAc]
    rfl
  | lat =>
    refine allNext_next.mpr (.registers ?_)
    rw [State.doIf_clearAc]
    rfl
  -- program flags
  | clf | stf => exact allNext_next.mpr (.flags rfl _ rfl)
  | opr bits =>
    rw [operateUnion]
    exact allNext_next.mpr (.flags rfl _ rfl)
  -- the PDP-1D instructions that answer no state
  | lch | dch | tad | special | ifi | idc | ida | scm | sci | scf | szl | cll | cml | erg | lrg | lrm | erm | rnm | rsm
  | rck | ctb | rro | rri | gcf => exact allNext_refused _
  -- in-out transfers
  | ioh => exact fun _ h => .transfer rfl s.mb ((if_pos rfl).trans h)
  | _ => exact fun _ h => .transfer (inOutInstr_of_encode rfl) s.mb h

theorem effect_of_afterRead {i : Instr} {s t : State} {e : Addr} (h : Effect i (s.afterRead e) t) : Effect i s t := by
  cases h with
  | registers h => exact .registers h
  | flags hi pf h => exact .flags hi pf h
  | store hi a v h => exact .store hi a v h
  | transfer hi m h => exact .transfer hi m h

/-- What an instruction can do is what the instruction performed can do (rule R140). -/
theorem exec_effect (i : Instr) (s : State) : allNext (exec i s) (Effect (performedBy i s) s) :=
  allNext_performedBy Effect (fun _ _ _ h => effect_of_afterRead h) exec_effect_of_ne_xct

/-! ### The console inputs, the parameters and the named PDP-1D state (decision D34) -/

/-- What no step changes is the same in s and t. -/
def constants (s t : State) : Prop := t.ss = s.ss ∧ t.tw = s.tw ∧ t.cfg = s.cfg ∧ t.named1d = s.named1d

theorem registersOnly_constants {s t : State} (h : registersOnly s t) : constants s t := by
  rw [h]
  exact ⟨rfl, rfl, rfl, rfl⟩

theorem inOutFrame_constants {s t : State} (h : inOutFrame s t) : constants s t := by
  rw [h]
  exact ⟨rfl, rfl, rfl, rfl⟩

theorem effect_constants {i : Instr} {s t : State} (h : Effect i s t) : constants s t := by
  cases h with
  | registers h => exact registersOnly_constants h
  | flags _ _ h => exact (registersOnly_constants h :)
  | store _ _ _ h => exact (registersOnly_constants h :)
  | transfer _ _ h => exact (inOutFrame_constants (inOut_inOutFrame _ _ h) :)

theorem takeBreak_constants (s : State) (b : BreakEffect) : constants s (s.takeBreak b) := by
  rw [State.takeBreak, writeWords_eq]
  exact ⟨rfl, rfl, rfl, rfl⟩

/-- Settles O9: a break changes registers, memory and one device, an instruction what its effect says. -/
theorem consoleInputsConstant : Obligations.ConsoleInputsConstant := by
  intro s t h
  obtain ⟨-, ⟨b, -, rfl⟩ | ⟨-, he⟩⟩ := step_next h
  · exact takeBreak_constants s b
  · exact (effect_constants (exec_effect _ s.fetched t he) :)

/-! ### Program flags, OV and RUN (rules R24, R25, R361) -/

/-- Settles O56: of the effects of an instruction only a write of flags and a transfer touch them. -/
theorem programFlagWriters : Obligations.ProgramFlagWriters := by
  intro i s t h hpf
  cases exec_effect i s t h with
  | registers h => exact absurd (by rw [h]) hpf
  | flags hi _ _ => exact .inl hi
  | store _ _ _ h => exact absurd (by rw [h]; rfl) hpf
  | transfer hi _ _ => exact .inr hi

theorem not_clearsOverflow_of_sets {i : Instr} (h : setsOverflow i = true) : clearsOverflow i = false := by
  cases i with
  | add | sub => rfl
  | _ => exact absurd h Bool.false_ne_true

/-- Settles O55: by what every instruction does to OV (`exec_overflowAfter`). -/
theorem overflowIsSetByAddAndSub : Obligations.OverflowIsSetByAddAndSub := by
  intro i s t h
  have hov : overflowAfter (performedBy i s) s t := exec_overflowAfter i s t h
  unfold overflowAfter at hov
  constructor
  · intro hs ht
    simpa [hs, ht] using hov
  · intro hi hs
    simpa [hi, hs, not_clearsOverflow_of_sets hi] using hov

/-- Settles O57: by what every instruction does to RUN (`exec_runAfter`). -/
theorem haltSourcesComplete : Obligations.HaltSourcesComplete := by
  intro i s t h hs
  have hrun : t.run = (!halts (performedBy i s) && s.run) := exec_runAfter i s t h
  rw [hrun, hs, Bool.and_true, Bool.not_eq_false']

/-! ### Memory (rules R50, R58) -/

/-- Memory after several stores in order. -/
def storeAll (m : Mem) (ws : List (Addr × Word)) : Mem := ws.foldl (fun m w => memWrite m w.1.toNat w.2) m

/-- Stores in sequence do to memory what `storeAll` does, whatever the rest of the state. -/
theorem writeWords_mem (ws : List (Addr × Word)) (s : State) : (s.writeWords ws).mem = storeAll s.mem ws := by
  induction ws generalizing s with
  | nil => rfl
  | cons w r ih => exact ih (s.writeWord w.1 w.2)

theorem wf_storeAll {m : Mem} (h : Memory.wf m = true) (ws : List (Addr × Word)) : Memory.wf (storeAll m ws) = true := by
  induction ws generalizing m with
  | nil => exact h
  | cons w r ih => exact ih (wf_memWrite m w.1.toNat w.2 w.1.isLt h)

/-- Memory after an answer: as before, or the words that an option that moves blocks has written (rule R220). -/
theorem received_mem (s : State) (o : Opt) (w : Word) (r : DevResult) :
    (s.received o w r).mem = if movesBlocks o then storeAll s.mem r.writes else s.mem := by
  rw [received_eq, writeWords_mem]

theorem transfer_mem {s t : State} {o : Opt} {w : Word} (h : s.transfer o w = .next t) :
    t.mem = if movesBlocks o then storeAll s.mem (s.answer o w).writes else s.mem := by
  obtain ⟨-, rfl⟩ | ⟨-, -, rfl⟩ := transfer_next h
  all_goals exact received_mem s o w _

/-- Memory after an in-out transfer: as before, or the words that its one claimant has written. -/
theorem inOut_mem {s t : State} {w : Word} (h : s.inOut w = .next t) :
    t.mem = s.mem ∨ ∃ o ws, claimants s.cfg w = [o] ∧ movesBlocks o = true ∧ t.mem = storeAll s.mem ws := by
  obtain ⟨-, hw⟩ | ⟨o, hc, ho⟩ := inOut_next h
  · obtain ⟨p, -, -, rfl⟩ := ioWait_next hw
    exact .inl rfl
  · obtain ⟨-, ht⟩ | ⟨rfl, d, -, ht⟩ := handOver_next ho
    · cases hb : movesBlocks o with
      | false => exact .inl ((transfer_mem ht).trans (by rw [hb]; rfl))
      | true => exact .inr ⟨o, _, hc, hb, (transfer_mem ht).trans (if_pos hb)⟩
    · exact .inr ⟨.type23, _, hc, rfl, transfer_mem ht⟩

/-- Settles O58: of the effects of an instruction only a store and a transfer touch memory, and a transfer only where its
one claimant moves blocks. -/
theorem nonStoringKeepMemory : Obligations.NonStoringKeepMemory := by
  intro i s t h hstores hblocks a
  have hmem : t.mem = s.mem := by
    cases exec_effect i s t h with
    | registers h => rw [h]
    | flags _ _ h => rw [h]
    | store hi _ _ _ => exact absurd (hstores.symm.trans hi) Bool.false_ne_true
    | transfer hi m ht =>
      obtain hm | ⟨o, ws, hc, hb, -⟩ := inOut_mem ht
      · exact hm
      · exact absurd ((hblocks hi o (by simp [show claimants s.cfg _ = [o] from hc])).symm.trans hb) Bool.false_ne_true
  rw [State.readWord, State.readWord, hmem]

/-- Every effect of an instruction keeps the canonical form of memory. -/
theorem effect_keeps_inv {i : Instr} {s t : State} (hs : s.inv) (h : Effect i s t) : t.inv := by
  unfold State.inv at hs ⊢
  cases h with
  | registers h =>
    rw [h]
    exact hs
  | flags _ _ h =>
    rw [h]
    exact hs
  | store _ a v h =>
    rw [h]
    exact wf_writeWord s a v hs
  | transfer _ _ h =>
    obtain hm | ⟨o, ws, -, -, hm⟩ := inOut_mem h
    · rw [hm]
      exact hs
    · rw [hm]
      exact wf_storeAll hs ws

/-- Settles O7: a break stores words in order, and an instruction does what its effect says (`exec_effect`). -/
theorem stepKeepsMemoryCanonical : Obligations.StepKeepsMemoryCanonical := by
  intro s t hs h
  obtain ⟨-, ⟨b, -, rfl⟩ | ⟨-, he⟩⟩ := step_next h
  · exact wf_writeWords b.writes s hs
  · exact effect_keeps_inv (s := s.fetched) hs (exec_effect _ s.fetched t he)

/-- Settles O8. -/
theorem launchMemoryCanonical : Obligations.LaunchMemoryCanonical := wf_reset

end Sys2Proof.Machine
end

section
/-! PROOFS. The instruction cycle and memory access (10_state.md rule R27, 20_memory.md rules R51 to R55): the fetch, the
reads and writes, the effective address, and defer chains that never end. -/

namespace Sys2Proof.Machine

theorem step_of_running {s : State} (hrun : s.run = true) (hbreak : s.breakDue = none) :
    step s = exec (decode s.cfg (s.readWord s.pc)) s.fetched := by
  rw [step, if_pos hrun, hbreak]

theorem breakDue_of_no_mechanism {s : State} (h : s.cfg.breaks = false) : s.breakDue = none := by
  rw [State.breakDue, h]
  rfl

/-- Settles O4: by the step's cases; a break wants the mechanism and Type 120 (rule R365). -/
theorem stepRunsDecoded : Obligations.StepRunsDecoded := by
  intro s i
  refine ⟨?runs, breakDue_of_no_mechanism, ?notInstalled⟩
  case runs =>
    rintro hrun hbreak rfl
    exact step_of_running hrun hbreak
  case notInstalled =>
    intro h
    have hc : s.cfg.installed.contains .type120 = false := by simpa using h
    rw [State.breakDue, hc, Bool.and_false]
    rfl

/-- Settles O6: the read-after-write laws of memory. -/
theorem memoryReadsLatestWrite : Obligations.MemoryReadsLatestWrite := fun s a v =>
  ⟨readWord_writeWord_same s a v, fun b hb => readWord_writeWord_other s a b v hb, rfl, rfl⟩

/-! ### Orbits of addresses -/

/-- There are 4096 addresses, so what holds along the first 4096 addresses of an orbit holds along all of it: the orbit has
come back to an address it has been at. -/
theorem forall_iterate_of_forall_lt (f : Addr → Addr) (a : Addr) {p : Addr → Prop}
    (h : ∀ n < memoryWords, p (f^[n] a)) (n : Nat) : p (f^[n] a) := by
  obtain ⟨i, j, hij, hj, heq⟩ : ∃ i j, i < j ∧ j ≤ memoryWords ∧ f^[i] a = f^[j] a := by
    have hcard : Fintype.card (Fin (2 ^ 12)) < Fintype.card (Fin (memoryWords + 1)) := by
      rw [Fintype.card_fin, Fintype.card_fin]
      decide
    obtain ⟨i, j, hne, he⟩ := Fintype.exists_ne_map_eq_of_card_lt (fun k : Fin (memoryWords + 1) => (f^[k] a).toFin) hcard
    have heq : f^[i] a = f^[j] a := BitVec.eq_of_toFin_eq he
    rcases lt_or_gt_of_ne hne with hlt | hlt
    · exact ⟨i, j, hlt, Nat.le_of_lt_succ j.isLt, heq⟩
    · exact ⟨j, i, hlt, Nat.le_of_lt_succ i.isLt, heq.symm⟩
  induction n using Nat.strong_induction_on with
  | _ n ih =>
    by_cases hn : n < memoryWords
    · exact h n hn
    · have hback : f^[n] a = f^[n - j + i] a := by
        rw [Function.iterate_add_apply, heq, ← Function.iterate_add_apply, Nat.sub_add_cancel (by omega)]
      rw [hback]
      exact ih _ (by omega)

/-! ### The defer chain -/

theorem deferChain_succ (m : Mem) (fuel : Nat) (y : Addr) : deferChain m (fuel + 1) y =
    if iBit (memRead m y.toNat) then deferChain m fuel (addrPart (memRead m y.toNat))
    else some (addrPart (memRead m y.toNat), memRead m y.toNat) := rfl

/-- A chain has no end within some reads exactly when all the words read defer. -/
theorem deferChain_eq_none_iff (s : State) (fuel : Nat) (y : Addr) :
    deferChain s.mem fuel y = none ↔ ∀ n < fuel, iBit (s.readWord (s.deferTo^[n] y)) = true := by
  induction fuel generalizing y with
  | zero => simp [deferChain]
  | succ fuel ih =>
    rw [deferChain_succ, Nat.forall_lt_succ_left]
    split
    · rename_i hd
      rw [ih, and_iff_right (show iBit (s.readWord (s.deferTo^[0] y)) = true from hd)]
      rfl
    · rename_i hd
      exact ⟨fun h => absurd h (Option.some_ne_none _), fun h => absurd (h.1 :) hd⟩

/-- An end that a chain has within some reads it has within more. -/
theorem deferChain_mono {m : Mem} {fuel : Nat} {y : Addr} {p : Addr × Word} (h : deferChain m fuel y = some p) :
    deferChain m (fuel + 1) y = some p := by
  induction fuel generalizing y with
  | zero => cases h
  | succ fuel ih =>
    rw [deferChain_succ] at h ⊢
    split at h
    · rename_i hd
      rw [if_pos hd]
      exact ih h
    · rename_i hd
      rw [if_neg hd]
      exact h

theorem ea_eq_none_iff (s : State) (y : Addr) :
    s.ea true y = none ↔ ∀ n, iBit (s.readWord (s.deferTo^[n] y)) = true := by
  rw [ea_deferred, Option.map_eq_none_iff, deferChain_eq_none_iff]
  exact ⟨forall_iterate_of_forall_lt s.deferTo y (p := fun a => iBit (s.readWord a) = true), fun h n _ => h n⟩

/-- Settles O11: 4096 words that all defer are an endless chain (`ea_eq_none_iff`). -/
theorem circularDeferNeverEnds : Obligations.CircularDeferNeverEnds := ea_eq_none_iff

/-- The limit on a chain's length is never met: one read more changes nothing. -/
theorem deferChain_tail {s : State} {y : Addr} (hd : iBit (s.readWord y) = true) :
    deferChain s.mem memoryWords y = deferChain s.mem memoryWords (s.deferTo y) := by
  have hsucc : deferChain s.mem memoryWords y = deferChain s.mem 4095 (s.deferTo y) := if_pos hd
  cases htail : deferChain s.mem 4095 (s.deferTo y) with
  | some p => rw [hsucc, htail, memoryWords, deferChain_mono htail]
  | none =>
    have hall := forall_iterate_of_forall_lt s.deferTo y (p := fun a => iBit (s.readWord a) = true)
      ((deferChain_eq_none_iff s memoryWords y).mp (hsucc.trans htail))
    rw [hsucc, htail, eq_comm, deferChain_eq_none_iff]
    exact fun n _ => hall (n + 1)

/-- Settles O10: the recursion of the chain, whose limit is never met (`deferChain_tail`). -/
theorem effectiveAddressRule : Obligations.EffectiveAddressRule := by
  intro s y
  refine ⟨ea_direct s y, ?_⟩
  rw [ea_deferred, ea_deferred]
  by_cases hd : iBit (s.readWord y) = true
  · rw [if_pos hd, deferChain_tail hd]
    rfl
  · rw [if_neg hd, memoryWords, deferChain_succ, if_neg (show ¬iBit (memRead s.mem y.toNat) = true from hd)]
    rfl

/-- Settles O12: each deferring instruction begins with its effective address (`withAddress_none`). -/
theorem deferLoopSticks : Obligations.DeferLoopSticks := by
  intro i s d y hi hea
  cases i with
  | and | ior | xor | lac | lio | dac | dap | dip | dio | dzm | add | sub | idx | isp | sad | sas | mus | mul | dis | div
  | jmp | jsp =>
    obtain ⟨rfl, rfl⟩ := Prod.mk.inj (Option.some.inj hi)
    exact withAddress_none hea _
  | xct =>
    obtain ⟨rfl, rfl⟩ := Prod.mk.inj (Option.some.inj hi)
    show execXct _ _ s = _
    rw [execXct, xctTarget, hea]
  | _ => exact absurd hi (Option.some_ne_none _).symm

end Sys2Proof.Machine
end

section
/-! PROOFS. `xct` (40_basic_instructions.md rule R140): a chain of `xct` as an orbit of addresses, which the limit of the
model never cuts off, and what executing a word in place does. -/

namespace Sys2Proof.Machine

/-- The word at an address is an `xct`, and this is the address of the word that it executes. -/
def xctStep (s : State) (a : Addr) : Option Addr :=
  match decode s.cfg (s.readWord a) with
  | .xct j z => (s.ea j z).map Prod.fst
  | _ => none

/-- The next address of a chain of `xct`; where the chain ends, the address itself. -/
def State.xctTo (s : State) (a : Addr) : Addr := (xctStep s a).getD a

theorem xctStep_eq_some_iff {s : State} {a b : Addr} : xctStep s a = some b ↔
    ∃ j z u, decode s.cfg (s.readWord a) = .xct j z ∧ s.ea j z = some (b, u) := by
  unfold xctStep
  constructor
  · intro h
    split at h
    · rename_i j z hx
      obtain ⟨⟨_, u⟩, hu, rfl⟩ := Option.map_eq_some_iff.mp h
      exact ⟨j, z, u, hx, hu⟩
    · cases h
  · rintro ⟨j, z, u, hx, hu⟩
    simp [hx, hu]

theorem ea_fst_mb (s : State) (w : Word) (i : Bool) (y : Addr) :
    (({ s with mb := w } : State).ea i y).map Prod.fst = (s.ea i y).map Prod.fst := by
  cases i <;> rfl

/-- What a chain reads does not change where it leads. -/
theorem xctStep_mb (s : State) (w : Word) (a : Addr) : xctStep { s with mb := w } a = xctStep s a := by
  unfold xctStep
  simp only [ea_fst_mb]
  rfl

theorem xctTo_of_xctStep {s : State} {a b : Addr} (h : xctStep s a = some b) : s.xctTo a = b := by
  rw [State.xctTo, h, Option.getD_some]

theorem xctTo_afterRead (s : State) (e : Addr) : (s.afterRead e).xctTo = s.xctTo := by
  funext a
  rw [State.xctTo, State.xctTo, State.afterRead, xctStep_mb]

theorem ea_afterRead_some {s : State} {j : Bool} {z : Addr} {p : Addr × State} (h : s.ea j z = some p) (e : Addr) :
    ∃ v, (s.afterRead e).ea j z = some (p.1, v) := by
  have hfst := ea_fst_mb s (s.readWord e) j z
  rw [h] at hfst
  obtain ⟨⟨_, v⟩, hv, rfl⟩ := Option.map_eq_some_iff.mp hfst
  exact ⟨v, hv⟩

theorem ea_afterRead_none {s : State} {j : Bool} {z : Addr} (h : s.ea j z = none) (e : Addr) :
    (s.afterRead e).ea j z = none := by
  have hfst := ea_fst_mb s (s.readWord e) j z
  rw [h] at hfst
  exact Option.map_eq_none_iff.mp hfst

section
variable {s s1 : State} {i : Bool} {y e : Addr} (hea : s.ea i y = some (e, s1)) (fuel : Nat)
include hea

/-- A chain goes on where the word executed is another `xct`. -/
theorem xctTarget_of_xct {j : Bool} {z : Addr} (hx : decode s.cfg (s.readWord e) = .xct j z) :
    xctTarget (fuel + 1) i y s = xctTarget fuel j z (s.afterRead e) := by
  obtain ⟨w, rfl⟩ := ea_some hea
  rw [xctTarget, hea]
  show (match decode s.cfg (s.readWord e) with
    | .xct j z => xctTarget fuel j z (s.afterRead e)
    | x => .ok (x, s.afterRead e)) = _
  rw [hx]

/-- A chain ends where the word executed is another instruction. -/
theorem xctTarget_of_ne_xct (hx : ∀ j z, decode s.cfg (s.readWord e) ≠ .xct j z) :
    xctTarget (fuel + 1) i y s = .ok (decode s.cfg (s.readWord e), s.afterRead e) := by
  obtain ⟨w, rfl⟩ := ea_some hea
  rw [xctTarget, hea]
  dsimp only
  split
  · rename_i j z h
    exact absurd h (hx j z)
  · rfl

end

theorem xctTarget_of_no_address {s : State} {i : Bool} {y : Addr} (hea : s.ea i y = none) (fuel : Nat) :
    xctTarget (fuel + 1) i y s = .error .deferLoop := by
  rw [xctTarget, hea]

/-- An end that a chain has within some words it has within more. -/
theorem xctTarget_mono {fuel : Nat} {i : Bool} {y : Addr} {s : State} (h : xctTarget fuel i y s ≠ .error .xctLoop) :
    xctTarget (fuel + 1) i y s = xctTarget fuel i y s := by
  induction fuel generalizing i y s with
  | zero => exact absurd rfl h
  | succ fuel ih =>
    cases hea : s.ea i y with
    | none => rw [xctTarget_of_no_address hea, xctTarget_of_no_address hea]
    | some p =>
      by_cases hx : ∃ j z, decode s.cfg (s.readWord p.1) = .xct j z
      · obtain ⟨j, z, hx⟩ := hx
        rw [xctTarget_of_xct hea _ hx] at h ⊢
        rw [xctTarget_of_xct hea _ hx]
        exact ih h
      · have hne : ∀ j z, decode s.cfg (s.readWord p.1) ≠ .xct j z := fun j z h => hx ⟨j, z, h⟩
        rw [xctTarget_of_ne_xct hea _ hne, xctTarget_of_ne_xct hea _ hne]

/-- A chain that goes on for ever has no end. -/
theorem xctTarget_of_endless {fuel : Nat} {i : Bool} {y e : Addr} {s s1 : State} (hea : s.ea i y = some (e, s1))
    (h : ∀ n, (xctStep s (s.xctTo^[n] e)).isSome = true) : xctTarget fuel i y s = .error .xctLoop := by
  induction fuel generalizing i y e s s1 with
  | zero => rfl
  | succ fuel ih =>
    obtain ⟨b, hb⟩ := Option.isSome_iff_exists.mp (h 0)
    obtain ⟨j, z, u, hx, hu⟩ := xctStep_eq_some_iff.mp hb
    have hto : s.xctTo e = b := xctTo_of_xctStep hb
    obtain ⟨v, hv⟩ := ea_afterRead_some hu e
    rw [xctTarget_of_xct hea _ hx]
    refine ih hv fun n => ?_
    rw [xctTo_afterRead, State.afterRead, xctStep_mb, ← hto]
    exact h (n + 1)

/-- A chain that has no end within some words: each of them is an `xct`, and each but the last leads to the next. -/
theorem xctStep_of_xctTarget {fuel : Nat} {i : Bool} {y e : Addr} {s s1 : State} (hea : s.ea i y = some (e, s1))
    (h : xctTarget (fuel + 1) i y s = .error .xctLoop) :
    ∀ n < fuel, (xctStep s (s.xctTo^[n] e)).isSome = true := by
  induction fuel generalizing i y e s s1 with
  | zero => exact fun n hn => absurd hn (Nat.not_lt_zero n)
  | succ fuel ih =>
    by_cases hx : ∃ j z, decode s.cfg (s.readWord e) = .xct j z
    · obtain ⟨j, z, hx⟩ := hx
      rw [xctTarget_of_xct hea _ hx] at h
      cases hu : s.ea j z with
      | none =>
        rw [xctTarget_of_no_address (ea_afterRead_none hu e)] at h
        cases h
      | some p =>
        obtain ⟨v, hv⟩ := ea_afterRead_some (p := p) hu e
        have hb : xctStep s e = some p.1 := xctStep_eq_some_iff.mpr ⟨j, z, p.2, hx, hu⟩
        rw [Nat.forall_lt_succ_left]
        refine ⟨Option.isSome_iff_exists.mpr ⟨_, hb⟩, fun n hn => ?_⟩
        have := ih hv h n hn
        rwa [xctTo_afterRead, State.afterRead, xctStep_mb, ← xctTo_of_xctStep hb] at this
    · rw [xctTarget_of_ne_xct hea _ fun j z h => hx ⟨j, z, h⟩] at h
      cases h

/-- The limit on a chain of `xct` is never met: one word more changes nothing. -/
theorem xctTarget_tail {i j : Bool} {y z e : Addr} {s s1 : State} (hea : s.ea i y = some (e, s1))
    (hx : decode s.cfg (s.readWord e) = .xct j z) :
    xctTarget (memoryWords + 1) i y s = xctTarget (memoryWords + 1) j z (s.afterRead e) := by
  rw [xctTarget_of_xct hea _ hx]
  by_cases hloop : xctTarget memoryWords j z (s.afterRead e) = .error .xctLoop
  · cases hu : s.ea j z with
    | none =>
      have hu' := ea_afterRead_none hu e
      rw [memoryWords, xctTarget_of_no_address hu', xctTarget_of_no_address hu']
    | some p =>
      obtain ⟨v, hv⟩ := ea_afterRead_some (p := p) hu e
      have hb : xctStep s e = some p.1 := xctStep_eq_some_iff.mpr ⟨j, z, p.2, hx, hu⟩
      have hloop' : xctTarget (memoryWords + 1) i y s = .error .xctLoop := (xctTarget_of_xct hea _ hx).trans hloop
      have hall := forall_iterate_of_forall_lt s.xctTo e (p := fun a => (xctStep s a).isSome = true)
        (xctStep_of_xctTarget hea hloop')
      rw [hloop, eq_comm]
      refine xctTarget_of_endless hv fun n => ?_
      rw [xctTo_afterRead, State.afterRead, xctStep_mb, ← xctTo_of_xctStep hb]
      exact hall (n + 1)
  · exact (xctTarget_mono hloop).symm

/-- Settles O13: a chain's first word is performed in place, or is an `xct` that the chain goes on from
(`xctTarget_tail`). -/
theorem xctExecutesTheWord : Obligations.XctExecutesTheWord := by
  intro s s1 i y e hea
  show execXct i y s = exec (decode s.cfg (s.readWord e)) (s.afterRead e)
  by_cases hx : ∃ j z, decode s.cfg (s.readWord e) = .xct j z
  · obtain ⟨j, z, hx⟩ := hx
    rw [hx, execXct, xctTarget_tail hea hx]
    rfl
  · have hne : ∀ j z, decode s.cfg (s.readWord e) ≠ .xct j z := fun j z h => hx ⟨j, z, h⟩
    rw [execXct, xctTarget_of_ne_xct hea _ hne]
    exact performed_eq_exec _ _ hne

/-- Settles O14: each of the words in place, by what executing it does (`xctExecutesTheWord`). -/
theorem xctActsInPlace : Obligations.XctActsInPlace := by
  intro s s1 i y e hea
  have hword := xctExecutesTheWord s s1 i y e hea
  refine ⟨fun n h => ?law, fun inv h => ?sza, fun z h => ?jmp, fun z h => ?jsp, fun h => ?hlt⟩
  all_goals rw [hword, h]
  case sza => exact congrArg Host.Outcome.next (State.skipOn_eq { s with mb := s.readWord e } inv _)
  all_goals rfl

/-- Settles O15: from an address of such a set the chain of `xct` goes on for ever (`xctTarget_of_endless`). -/
theorem xctLoopSticks : Obligations.XctLoopSticks := by
  intro s s1 P i y e hP hea he
  have hstep (a : Addr) (ha : P a) : ∃ b, xctStep s a = some b ∧ P b := by
    obtain ⟨d, z, b, u, hx, hu, hb⟩ := hP a ha
    exact ⟨b, xctStep_eq_some_iff.mpr ⟨d, z, u, hx, hu⟩, hb⟩
  have hmem (n : Nat) : P (s.xctTo^[n] e) := by
    induction n with
    | zero => exact he
    | succ n ih =>
      obtain ⟨b, hb, hPb⟩ := hstep _ ih
      rw [Function.iterate_succ_apply', xctTo_of_xctStep hb]
      exact hPb
  have hloop : xctTarget (memoryWords + 1) i y s = .error .xctLoop := by
    refine xctTarget_of_endless hea fun n => ?_
    obtain ⟨b, hb, -⟩ := hstep _ (hmem n)
    exact Option.isSome_iff_exists.mpr ⟨b, hb⟩
  show execXct i y s = _
  rw [execXct, hloop]

end Sys2Proof.Machine
end

section
/-! PROOFS. The instructions that store a word, the saving jumps and `law` (40_basic_instructions.md rules R113 to R130, R142),
and what the next fetch sees of a store (20_memory.md rule R65). -/

namespace Sys2Proof.Machine

theorem storesOne_writeWord (s : State) (e : Addr) (v : Word) : storesOne s (s.writeWord e v) e v :=
  ⟨rfl, readWord_writeWord_same s e v, fun a ha => readWord_writeWord_other s e a v ha⟩

section
variable {s s1 : State} {i : Bool} {y e : Addr} (h : s.ea i y = some (e, s1))
include h

theorem exec_dac : exec (.dac i y) s = .next (s.writeWord e s.ac) := by
  obtain ⟨w, rfl⟩ := ea_some h
  exact withAddress_some h _

theorem exec_dio : exec (.dio i y) s = .next (s.writeWord e s.io) := by
  obtain ⟨w, rfl⟩ := ea_some h
  exact withAddress_some h _

theorem exec_dzm : exec (.dzm i y) s = .next (s.writeWord e 0) := by
  obtain ⟨w, rfl⟩ := ea_some h
  exact withAddress_some h _

theorem exec_dap : exec (.dap i y) s = .next (s.writeWord e (instrPart (s.readWord e) ++ addrPart s.ac)) := by
  obtain ⟨w, rfl⟩ := ea_some h
  exact withAddress_some h _

theorem exec_dip : exec (.dip i y) s = .next (s.writeWord e (instrPart s.ac ++ addrPart (s.readWord e))) := by
  obtain ⟨w, rfl⟩ := ea_some h
  exact withAddress_some h _

theorem exec_idx : exec (.idx i y) s = .next { s.writeWord e (indexed (s.readWord e)) with
    ac := indexed (s.readWord e) } := by
  obtain ⟨w, rfl⟩ := ea_some h
  exact withAddress_some h _

theorem exec_isp : exec (.isp i y) s = .next { s.writeWord e (indexed (s.readWord e)) with
    ac := indexed (s.readWord e), pc := if sign (indexed (s.readWord e)) then s.pc else s.pc + 1 } := by
  obtain ⟨w, rfl⟩ := ea_some h
  show execIsp i y s = _
  rw [execIsp, withAddress_some h]
  dsimp only
  rw [State.skipIf_eq]
  show Host.Outcome.next { s.writeWord e (indexed (s.readWord e)) with
    ac := indexed (s.readWord e), pc := if !sign (indexed (s.readWord e)) then s.pc + 1 else s.pc } = _
  cases sign (indexed (s.readWord e)) <;> rfl

end

/-- Settles O18. -/
theorem depositInstructions : Obligations.DepositInstructions := fun s _ i y e h =>
  ⟨⟨_, exec_dac h, storesOne_writeWord s e s.ac⟩, ⟨_, exec_dio h, storesOne_writeWord s e s.io⟩,
    ⟨_, exec_dzm h, storesOne_writeWord s e 0⟩, toNat_mkWord 10 i y, toNat_mkWord 13 i y, toNat_mkWord 14 i y⟩

/-- A word put together of the instruction part of one and the address part of another (rules R115, R117). -/
theorem bit_instrPart_append_addrPart (u w : Word) {n : Nat} (hn : n < 18) :
    bit n (instrPart u ++ addrPart w) = if n < 6 then bit n u else bit n w := by
  rw [bit, BitVec.getLsbD_append, instrPart, addrPart, BitVec.getLsbD_extractLsb', BitVec.getLsbD_extractLsb']
  by_cases h : n < 6
  · rw [if_pos h, if_neg (by omega), bit]
    simp only [show 17 - n - 12 < 6 by omega, show 12 + (17 - n - 12) = 17 - n by omega, decide_true, Bool.true_and]
  · rw [if_neg h, if_pos (by omega), bit]
    simp only [show 17 - n < 12 by omega, decide_true, Bool.true_and, Nat.zero_add]

/-- Settles O19: the word stored is put together of two parts (`bit_instrPart_append_addrPart`). -/
theorem partDeposits : Obligations.PartDeposits := fun s _ _ _ e h =>
  ⟨⟨_, _, exec_dap h, storesOne_writeWord s e _, fun _ hn => bit_instrPart_append_addrPart _ _ hn⟩,
    ⟨_, _, exec_dip h, storesOne_writeWord s e _, fun _ hn => bit_instrPart_append_addrPart _ _ hn⟩⟩

/-- The saved word: OV, five zeros, PC (rule R142). -/
theorem bit_pcword (s : State) {n : Nat} (hn : n < 18) :
    bit n s.pcword = if n = 0 then s.ov else if n < 6 then false else bit n s.pc := by
  rw [bit, State.pcword, BitVec.getLsbD_append, BitVec.getLsbD_append, bit]
  by_cases h0 : n = 0
  · subst h0
    simp
  · rw [if_neg h0]
    by_cases h6 : n < 6
    · rw [if_pos h6, if_neg (by omega), if_pos (by omega)]
      exact BitVec.getLsbD_zero
    · rw [if_neg h6, if_pos (by omega)]

/-- A call stores AC at y, and AC and PC take their new values (rules R113, R125). -/
theorem storesOne_call (s : State) (y : Addr) :
    storesOne { s with ac := s.pcword, pc := y + 1 } (s.call y) y s.ac :=
  ⟨rfl, readWord_writeWord_same s y s.ac, fun a ha => readWord_writeWord_other s y a s.ac ha⟩

/-- Settles O25: the saved word bit by bit, and the jumps by their definitions. -/
theorem savingJumps : Obligations.SavingJumps := by
  intro s
  refine ⟨fun n hn => bit_pcword s hn, ?jsp, fun y => ⟨_, rfl, storesOne_call s y⟩,
    fun y => ⟨rfl, _, rfl, storesOne_call s 0o100⟩⟩
  case jsp =>
    intro i y e s1 h
    obtain ⟨w, rfl⟩ := ea_some h
    exact withAddress_some h _

/-- A store is seen by the fetch from its address (rule R65). -/
theorem step_of_readWord_pc {t : State} {v : Word} (hrun : t.run = true) (hbreaks : t.cfg.breaks = false)
    (hv : t.readWord t.pc = v) : step t = exec (decode t.cfg v) { t with mb := v, pc := t.pc + 1 } := by
  rw [step_of_running hrun (breakDue_of_no_mechanism hbreaks), State.fetched, hv]

/-- What the next steps see of a state that a store of v at e has left: the word, where control is at e or is put there. -/
theorem store_seen {i : Instr} {s t : State} {e pc : Addr} {v : Word} (hexec : exec i s = .next t) (hs : s.run = true)
    (hbreaks : s.cfg.breaks = false) (hrun : t.run = s.run) (hcfg : t.cfg = s.cfg) (hv : t.readWord e = v)
    (hpc : t.pc = pc) : ∃ t, exec i s = .next t ∧ t.readWord e = v ∧
      step { t with pc := e } = exec (decode s.cfg v) { t with mb := v, pc := e + 1 } ∧
      (t.pc = e → step t = exec (decode s.cfg v) { t with mb := v, pc := e + 1 }) ∧ t.pc = pc := by
  rw [← hcfg] at hbreaks ⊢
  rw [← hrun] at hs
  refine ⟨t, hexec, hv, step_of_readWord_pc (t := { t with pc := e }) hs hbreaks hv, ?_, hpc⟩
  rintro rfl
  exact step_of_readWord_pc hs hbreaks hv

/-- Settles O60: by the state that each storing instruction leaves (`exec_dac` to `exec_isp`, `State.call`) and what a fetch
sees of it (`store_seen`). -/
theorem storeSeenByNextFetch : Obligations.StoreSeenByNextFetch := by
  intro i s e v hs hbreaks hi
  have hsame (x : Word) := readWord_writeWord_same s e x
  rcases hi with ⟨d, y, s1, h, hi⟩ | ⟨rfl, rfl⟩ | ⟨⟨y, rfl⟩, rfl, rfl⟩
  case inl =>
    rcases hi with ⟨rfl, rfl⟩ | ⟨rfl, rfl⟩ | ⟨rfl, rfl⟩ | ⟨rfl, rfl⟩ | ⟨rfl, rfl⟩ | ⟨rfl | rfl, rfl⟩
    · exact store_seen (exec_dac h) hs hbreaks rfl rfl (hsame _) rfl
    · exact store_seen (exec_dio h) hs hbreaks rfl rfl (hsame _) rfl
    · exact store_seen (exec_dzm h) hs hbreaks rfl rfl (hsame _) rfl
    · exact store_seen (exec_dap h) hs hbreaks rfl rfl (hsame _) rfl
    · exact store_seen (exec_dip h) hs hbreaks rfl rfl (hsame _) rfl
    · exact store_seen (exec_idx h) hs hbreaks rfl rfl (hsame _) rfl
    · exact store_seen (exec_isp h) hs hbreaks rfl rfl (hsame _) rfl
  case inr.inl => exact store_seen (t := s.call e) rfl hs hbreaks rfl rfl (hsame _) rfl
  case inr.inr => exact store_seen (t := s.call 0o100) rfl hs hbreaks rfl rfl (hsame _) rfl

/-- Settles O23: a comparison reads the operand and skips by it. -/
theorem compareInstructions : Obligations.CompareInstructions := by
  intro s s1 i y e h
  constructor
  · show execSad i y s = _
    rw [execSad, withOperand_some h, State.skipIf_eq]
    simp [State.afterRead]
  · show execSas i y s = _
    rw [execSas, withOperand_some h, State.skipIf_eq]
    simp [State.afterRead]

end Sys2Proof.Machine
end

section
/-! PROOFS. 1's complement arithmetic as integer arithmetic (00_scope.md rule R14, 40_basic_instructions.md): what a word, its
sign and its complement are as numbers, and the sums and differences. -/

namespace Sys2Proof.Machine

/-- The sign is the leading bit (rule R14). -/
theorem sign_eq_decide (w : Word) : sign w = decide (2 ^ 17 ≤ w.toNat) :=
  (BitVec.msb_eq_getLsbD_last w).symm.trans (BitVec.msb_eq_decide w)

theorem sign_eq_false_iff {w : Word} : sign w = false ↔ w.toNat < 2 ^ 17 := by
  rw [sign_eq_decide, decide_eq_false_iff_not, not_le]

theorem sign_eq_true_iff {w : Word} : sign w = true ↔ 2 ^ 17 ≤ w.toNat := by
  rw [sign_eq_decide, decide_eq_true_iff]

theorem toNat_complement (w : Word) : (~~~w).toNat = 262143 - w.toNat := by
  rw [BitVec.toNat_not]

theorem sign_complement (w : Word) : sign (~~~w) = !sign w := by
  have hw : w.toNat < 2 ^ 18 := w.isLt
  rw [sign_eq_decide, sign_eq_decide, toNat_complement, ← decide_not, decide_eq_decide]
  omega

/-- The integer of a word from its number (rule R14). -/
theorem val_eq (w : Word) : val w = if w.toNat < 2 ^ 17 then (w.toNat : Int) else (w.toNat : Int) - 262143 := by
  have hw : w.toNat < 2 ^ 18 := w.isLt
  unfold val
  split
  · rename_i hs
    rw [if_neg (by have := sign_eq_true_iff.mp hs; omega), toNat_complement]
    omega
  · rename_i hs
    rw [if_pos (sign_eq_false_iff.mp (Bool.eq_false_iff.mpr hs))]

theorem magnitude_eq (w : Word) : magnitude w = (val w).natAbs := by
  unfold magnitude val
  split <;> omega

theorem val_complement (w : Word) : val (~~~w) = -val w := by
  have hw : w.toNat < 2 ^ 18 := w.isLt
  rw [val_eq, val_eq, toNat_complement]
  split_ifs <;> omega

theorem eq_minusZero_iff {w : Word} : w = minusZero ↔ w.toNat = 262143 :=
  ⟨fun h => h ▸ rfl, fun h => BitVec.eq_of_toNat_eq h⟩

/-- The end-around carry as a number (rule R14). -/
theorem toNat_add1c (a b : Word) : (add1c a b).toNat =
    if 2 ^ 18 ≤ a.toNat + b.toNat then a.toNat + b.toNat + 1 - 2 ^ 18 else a.toNat + b.toNat := by
  have ha : a.toNat < 2 ^ 18 := a.isLt
  have hb : b.toNat < 2 ^ 18 := b.isLt
  simp only [add1c]
  split
  · rw [BitVec.toNat_ofNat]
    omega
  · rw [BitVec.toNat_ofNat]
    omega

theorem toNat_plusZero (w : Word) : (plusZero w).toNat = if w.toNat = 262143 then 0 else w.toNat := by
  unfold plusZero
  split
  · rename_i h
    rw [if_pos (eq_minusZero_iff.mp h)]
    rfl
  · rename_i h
    rw [if_neg fun hw => h (eq_minusZero_iff.mpr hw)]

/-- The minus-zero replacement leaves no minus zero (rules R111, R121). -/
theorem plusZero_ne_minusZero (w : Word) : plusZero w ≠ minusZero := by
  unfold plusZero
  split
  · decide
  · assumption

theorem val_plusZero (w : Word) : val (plusZero w) = val w := by
  rw [val_eq, val_eq, toNat_plusZero]
  split_ifs <;> omega

/-- The sum in range, above it and below it, with the overflow condition (rule R111). -/
theorem val_add1c (a b : Word) :
    (-131071 ≤ val a + val b ∧ val a + val b ≤ 131071 →
      val (add1c a b) = val a + val b ∧ addOverflow a b (add1c a b) = false) ∧
    (131071 < val a + val b → val (add1c a b) = val a + val b - 262143 ∧ addOverflow a b (add1c a b) = true) ∧
    (val a + val b < -131071 → val (add1c a b) = val a + val b + 262143 ∧ addOverflow a b (add1c a b) = true) := by
  have ha : a.toNat < 2 ^ 18 := a.isLt
  have hb : b.toNat < 2 ^ 18 := b.isLt
  have hsum := toNat_add1c a b
  have hov : addOverflow a b (add1c a b) = true ↔
      (2 ^ 17 ≤ a.toNat ↔ 2 ^ 17 ≤ b.toNat) ∧ ¬(2 ^ 17 ≤ (add1c a b).toNat ↔ 2 ^ 17 ≤ a.toNat) := by
    simp [addOverflow, sign_eq_decide]
  rw [← Bool.not_eq_true, hov, val_eq a, val_eq b, val_eq (add1c a b)]
  split_ifs at hsum ⊢ <;> omega

/-- The difference is the complement of a sum, so it is the sum with the complement of b (rule R139). -/
theorem val_sub1c (a b : Word) :
    (-131071 ≤ val a - val b ∧ val a - val b ≤ 131071 →
      val (sub1c a b) = val a - val b ∧ subOverflow a b (sub1c a b) = false) ∧
    (131071 < val a - val b → val (sub1c a b) = val a - val b - 262143 ∧ subOverflow a b (sub1c a b) = true) ∧
    (val a - val b < -131071 → val (sub1c a b) = val a - val b + 262143 ∧ subOverflow a b (sub1c a b) = true) := by
  obtain ⟨hin, hhigh, hlow⟩ := val_add1c (~~~a) b
  have hval : val (sub1c a b) = -val (add1c (~~~a) b) := val_complement _
  have hov : subOverflow a b (sub1c a b) = addOverflow (~~~a) b (add1c (~~~a) b) := by
    rw [subOverflow, addOverflow, sub1c, sign_complement, sign_complement]
    cases sign a <;> cases sign b <;> cases sign (add1c (~~~a) b) <;> rfl
  rw [val_complement] at hin hhigh hlow
  rw [hval, hov]
  refine ⟨fun h => ?_, fun h => ?_, fun h => ?_⟩
  · obtain ⟨hv, ho⟩ := hin (by omega)
    exact ⟨by omega, ho⟩
  · obtain ⟨hv, ho⟩ := hlow (by omega)
    exact ⟨by omega, ho⟩
  · obtain ⟨hv, ho⟩ := hhigh (by omega)
    exact ⟨by omega, ho⟩

/-- A difference is minus zero only as minus zero less +0 (decision D9). -/
theorem sub1c_eq_minusZero_iff (a b : Word) : sub1c a b = minusZero ↔ a = minusZero ∧ b = 0 := by
  have ha : a.toNat < 2 ^ 18 := a.isLt
  have hb : b = 0 ↔ b.toNat = 0 := ⟨fun h => h ▸ rfl, fun h => BitVec.eq_of_toNat_eq h⟩
  rw [eq_minusZero_iff, eq_minusZero_iff, hb, sub1c, toNat_complement, toNat_add1c, toNat_complement]
  split <;> omega

section
variable {s s1 : State} {i : Bool} {y e : Addr} (h : s.ea i y = some (e, s1))
include h

theorem exec_add : exec (.add i y) s = .next { s with
    ac := plusZero (add1c s.ac (s.readWord e))
    ov := s.ov || addOverflow s.ac (s.readWord e) (add1c s.ac (s.readWord e)), mb := s.readWord e } := by
  show execAdd i y s = _
  rw [execAdd, withOperand_some h]
  rfl

theorem exec_sub : exec (.sub i y) s = .next { s with
    ac := sub1c s.ac (s.readWord e)
    ov := s.ov || subOverflow s.ac (s.readWord e) (sub1c s.ac (s.readWord e)), mb := s.readWord e } := by
  show execSub i y s = _
  rw [execSub, withOperand_some h]
  rfl

end

/-- Settles O21: the sum by its range (`val_add1c`), without minus zero (`val_plusZero`). -/
theorem addInstruction : Obligations.AddInstruction := by
  intro s s1 i y e h
  refine ⟨_, exec_add h, rfl, plusZero_ne_minusZero _, ?_⟩
  obtain ⟨hin, hhigh, hlow⟩ := val_add1c s.ac (s.readWord e)
  dsimp only
  rw [val_plusZero]
  refine ⟨fun hT => ?_, fun hT => ?_, fun hT => ?_⟩
  · obtain ⟨hv, ho⟩ := hin hT
    exact ⟨hv, by rw [ho, Bool.or_false]⟩
  · obtain ⟨hv, ho⟩ := hhigh hT
    exact ⟨hv, by rw [ho, Bool.or_true]⟩
  · obtain ⟨hv, ho⟩ := hlow hT
    exact ⟨hv, by rw [ho, Bool.or_true]⟩

/-- Settles O22: the difference by its range (`val_sub1c`), minus zero in one case (`sub1c_eq_minusZero_iff`). -/
theorem subInstruction : Obligations.SubInstruction := by
  intro s s1 i y e h
  refine ⟨_, exec_sub h, rfl, sub1c_eq_minusZero_iff _ _, ?_⟩
  obtain ⟨hin, hhigh, hlow⟩ := val_sub1c s.ac (s.readWord e)
  dsimp only
  refine ⟨fun hT => ?_, fun hT => ?_, fun hT => ?_⟩
  · obtain ⟨hv, ho⟩ := hin hT
    exact ⟨hv, by rw [ho, Bool.or_false]⟩
  · obtain ⟨hv, ho⟩ := hhigh hT
    exact ⟨hv, by rw [ho, Bool.or_true]⟩
  · obtain ⟨hv, ho⟩ := hlow hT
    exact ⟨hv, by rw [ho, Bool.or_true]⟩

/-- The index step as an integer: one more, and past the largest word the smallest (decision D10). -/
theorem val_indexed (v : Word) : val (indexed v) = if v = 0o377777 then -131071 else val v + 1 := by
  have hlt : v.toNat < 2 ^ 18 := v.isLt
  have hone : val 1 = 1 := rfl
  obtain ⟨hin, hhigh, -⟩ := val_add1c v 1
  have hmax : v = 0o377777 ↔ v.toNat = 131071 := ⟨fun h => h ▸ rfl, fun h => BitVec.eq_of_toNat_eq h⟩
  have hv := val_eq v
  rw [hone] at hin hhigh
  rw [indexed, val_plusZero]
  split
  · rename_i h
    have h131071 := hmax.mp h
    rw [if_pos (by omega)] at hv
    have := hhigh (by omega)
    omega
  · rename_i h
    have hne := mt hmax.mpr h
    refine (hin ?_).1
    split at hv <;> omega

/-- Settles O20: both leave the indexed word in memory and AC (`exec_idx`, `exec_isp`), which is one more
(`val_indexed`). -/
theorem indexInstructions : Obligations.IndexInstructions := by
  intro s s1 i y e h
  have hstore := storesOne_writeWord s e (indexed (s.readWord e))
  obtain ⟨-, hsame, hother⟩ := hstore
  exact ⟨_, _, indexed (s.readWord e), exec_idx h, exec_isp h, val_indexed _, plusZero_ne_minusZero _,
    ⟨rfl, hsame, hother⟩, ⟨rfl, hsame, hother⟩⟩

/-- Settles O26: `law` loads the number, `law -N` its complement (`val_complement`). -/
theorem lawInstructions : Obligations.LawInstructions := by
  intro s n
  have hn : n.toNat < 2 ^ 12 := n.isLt
  have hwide : (n.setWidth 18).toNat = n.toNat := by
    rw [BitVec.toNat_setWidth]
    omega
  have hval : val (n.setWidth 18) = n.toNat := by rw [val_eq, hwide, if_pos (by omega)]
  refine ⟨⟨_, rfl, hwide⟩, ⟨_, rfl, ?_, ?_⟩, toNat_mkWord 28 false n, toNat_mkWord 28 true n⟩
  · rw [toNat_complement, hwide]
  · rw [val_complement, hval]

end Sys2Proof.Machine
end

section
/-! PROOFS. Multiplication and division (40_basic_instructions.md rules R118, R119, R132, R133): the steps as operations on
numbers, seventeen multiply steps, and the product and quotient of the Type 10 option. -/

namespace Sys2Proof.Machine

/-- The low bit is the parity. -/
theorem bit_seventeen_iff (w : Word) : bit 17 w = true ↔ w.toNat % 2 = 1 := by
  rw [bit, BitVec.getLsbD, Nat.testBit_zero, decide_eq_true_iff]

theorem toNat_bit_seventeen (w : Word) : (bit 17 w).toNat = w.toNat % 2 := by
  cases h : bit 17 w with
  | false =>
    have hodd : w.toNat % 2 ≠ 1 := mt (bit_seventeen_iff w).mpr (Bool.eq_false_iff.mp h)
    rw [Bool.toNat_false]
    omega
  | true =>
    rw [(bit_seventeen_iff w).mp h]
    rfl

/-- A shift right by one place with a bit b entering at the left, as a number. -/
theorem ofBool_append_high (b : Bool) (w : Word) :
    (BitVec.ofBool b ++ w.extractLsb' 1 17 : Word) = BitVec.ofNat 18 (b.toNat * 2 ^ 17 + w.toNat / 2) := by
  have hw : w.toNat < 2 ^ 18 := w.isLt
  have hb := Bool.toNat_lt b
  apply BitVec.eq_of_toNat_eq
  rw [BitVec.toNat_append, BitVec.toNat_ofBool, BitVec.extractLsb'_toNat, Nat.shiftRight_eq_div_pow,
    ← Nat.shiftLeft_add_eq_or_of_lt (Nat.mod_lt _ (by decide)), Nat.shiftLeft_eq, BitVec.toNat_ofNat]
  omega

/-- A shift left by one place with a bit b entering at the right, as a number. -/
theorem low_append_ofBool (b : Bool) (w : Word) :
    (w.extractLsb' 0 17 ++ BitVec.ofBool b : Word) = BitVec.ofNat 18 (2 * w.toNat % 2 ^ 18 + b.toNat) := by
  have hb := Bool.toNat_lt b
  apply BitVec.eq_of_toNat_eq
  rw [BitVec.toNat_append, BitVec.toNat_ofBool, BitVec.extractLsb'_toNat, Nat.shiftRight_zero,
    ← Nat.shiftLeft_add_eq_or_of_lt hb, Nat.shiftLeft_eq, BitVec.toNat_ofNat]
  omega

/-- The addend of a multiply step: AC, with the multiplicand where IO bit 17 is 1 (rule R132). -/
def mulAddend (ac io b : Word) : Word := if bit 17 io then plusZero (add1c ac b) else ac

theorem exec_mus {s s1 : State} {i : Bool} {y e : Addr} (h : s.ea i y = some (e, s1)) :
    exec (.mus i y) s = .next { s with
      ac := BitVec.ofNat 18 ((mulAddend s.ac s.io (s.readWord e)).toNat / 2)
      io := BitVec.ofNat 18 ((mulAddend s.ac s.io (s.readWord e)).toNat % 2 * 2 ^ 17 + s.io.toNat / 2)
      mb := s.readWord e } := by
  have hac := ofBool_append_high false (mulAddend s.ac s.io (s.readWord e))
  rw [Bool.toNat_false, Nat.zero_mul, Nat.zero_add] at hac
  have hio := ofBool_append_high (bit 17 (mulAddend s.ac s.io (s.readWord e))) s.io
  rw [toNat_bit_seventeen] at hio
  rw [← hac, ← hio]
  show execMus i y s = _
  rw [execMus, withOperand_some h]
  rfl

/-- Settles O27: the step on numbers (`exec_mus`). -/
theorem multiplyStep : Obligations.MultiplyStep := by
  intro s s1 i y e h
  refine ⟨mulAddend s.ac s.io (s.readWord e), fun h0 => ?_, fun h1 => ?_, exec_mus h⟩
  · rw [mulAddend, if_neg (by rw [h0]; decide)]
  · rw [mulAddend, if_pos h1]
    rfl

/-- AC and IO as one number of 36 bits. -/
def pairNumber (u : State) : Nat := u.ac.toNat * 2 ^ 18 + u.io.toNat

/-- One direct multiply step, for AC and multiplicand of sign 0: with c the low bit of IO, which is lost, the number of AC and
IO is halved after c times the multiplicand is added to AC. -/
theorem mus_pairNumber {u : State} {y : Addr} (hac : u.ac.toNat < 2 ^ 17) (hb : (u.readWord y).toNat < 2 ^ 17) :
    ∃ v, exec (.mus false y) u = .next v ∧ v.ac.toNat < 2 ^ 17 ∧ v.readWord y = u.readWord y ∧
      2 * pairNumber v + pairNumber u % 2 =
        pairNumber u + pairNumber u % 2 * (u.readWord y).toNat * 2 ^ 18 := by
  have hio : u.io.toNat < 2 ^ 18 := u.io.isLt
  have haddend : (mulAddend u.ac u.io (u.readWord y)).toNat =
      u.ac.toNat + u.io.toNat % 2 * (u.readWord y).toNat := by
    unfold mulAddend
    split
    · rename_i hbit
      have hsum : (add1c u.ac (u.readWord y)).toNat = u.ac.toNat + (u.readWord y).toNat := by
        rw [toNat_add1c, if_neg (by omega)]
      rw [(bit_seventeen_iff _).mp hbit, toNat_plusZero, hsum, if_neg (by omega), Nat.one_mul]
    · rename_i hbit
      have heven : u.io.toNat % 2 = 0 := by
        have := mt (bit_seventeen_iff u.io).mpr hbit
        omega
      rw [heven, Nat.zero_mul, Nat.add_zero]
  refine ⟨_, exec_mus (ea_direct u y), ?_, rfl, ?_⟩
  · rw [BitVec.toNat_ofNat]
    have := (mulAddend u.ac u.io (u.readWord y)).isLt
    omega
  · have hpar : pairNumber u % 2 = u.io.toNat % 2 := by
      unfold pairNumber
      omega
    rw [hpar, pairNumber, pairNumber, BitVec.toNat_ofNat, BitVec.toNat_ofNat, haddend]
    rcases Nat.mod_two_eq_zero_or_one u.io.toNat with hc | hc
    all_goals
      rw [hc]
      omega

/-- After k multiply steps from s: the multiplier is m 2^k + low, its low part has been used and the high part m stands in
the right of IO. -/
def multiplied (s : State) (y : Addr) (k : Nat) (u : State) : Prop :=
  u.ac.toNat < 2 ^ 17 ∧ u.readWord y = s.readWord y ∧ ∃ m low, s.io.toNat = m * 2 ^ k + low ∧
    pairNumber u = m + 2 ^ (18 - k) * ((s.readWord y).toNat * low)

theorem multiplied_step {s u : State} {y : Addr} {k : Nat} (hk : k < 17) (hb : (s.readWord y).toNat < 2 ^ 17)
    (h : multiplied s y k u) : ∃ v, exec (.mus false y) u = .next v ∧ multiplied s y (k + 1) v := by
  obtain ⟨hac, hmem, m, low, hio, hpair⟩ := h
  obtain ⟨v, hexec, hvac, hvmem, hv⟩ := mus_pairNumber hac (hmem.symm ▸ hb)
  refine ⟨v, hexec, hvac, hvmem.trans hmem, m / 2, low + m % 2 * 2 ^ k, ?_, ?_⟩
  · have hm : m = 2 * (m / 2) + m % 2 := (Nat.div_add_mod m 2).symm
    rw [hio, pow_succ]
    nth_rewrite 1 [hm]
    ring
  · have hhalf : 2 ^ (18 - k) = 2 * 2 ^ (18 - (k + 1)) := by rw [← pow_succ']; congr 1; omega
    have htop : 2 ^ (18 - (k + 1)) * 2 ^ k = 2 ^ 17 := by rw [← pow_add]; congr 1; omega
    have hpar : pairNumber u % 2 = m % 2 := by rw [hpair, hhalf, Nat.mul_assoc]; omega
    have hused : 2 ^ (18 - (k + 1)) * ((s.readWord y).toNat * (low + m % 2 * 2 ^ k)) =
        2 ^ (18 - (k + 1)) * ((s.readWord y).toNat * low) + m % 2 * (s.readWord y).toNat * 2 ^ 17 := by
      rw [← htop]
      ring
    rw [hpar, hmem, hpair, hhalf, Nat.mul_assoc 2] at hv
    rw [hused]
    omega

theorem halved_pair {a i p : Nat} (h : a * 2 ^ 18 + i = 2 * p) : a * 2 ^ 17 + i / 2 = p := by
  rw [pow_succ, ← Nat.mul_assoc, Nat.mul_comm _ 2] at h
  generalize a * 2 ^ 17 = b at *
  omega

/-- Settles O28: seventeen steps use the whole multiplier (`multiplied_step`). -/
theorem seventeenMultiplySteps : Obligations.SeventeenMultiplySteps := by
  intro s y hac hio hb once t
  rw [sign_eq_false_iff] at hio hb
  have honce {k : Nat} {u : State} (hk : k < 17) (h : multiplied s y k u) : multiplied s y (k + 1) (once u) := by
    obtain ⟨v, hexec, hv⟩ := multiplied_step hk hb h
    have : once u = v := by simp only [once, hexec]
    rwa [this]
  have hsteps (k : Nat) (hk : k ≤ 17) : multiplied s y k (once^[k] s) := by
    induction k with
    | zero =>
      show multiplied s y 0 s
      refine ⟨by rw [hac]; decide, rfl, s.io.toNat, 0, by omega, ?_⟩
      rw [pairNumber, hac]
      simp
    | succ k ih =>
      rw [Function.iterate_succ_apply']
      exact honce (by omega) (ih (by omega))
  have hfinal : multiplied s y 17 t := hsteps 17 le_rfl
  clear_value t
  obtain ⟨hsign, -, m, low, hlow, hpair⟩ := hfinal
  obtain rfl : m = 0 := by omega
  rw [Nat.zero_mul, Nat.zero_add] at hlow
  refine ⟨?_, sign_eq_false_iff.mpr hsign⟩
  rw [pairNumber, ← hlow, show 18 - 17 = 1 from rfl, pow_one, Nat.zero_add] at hpair
  rw [Nat.mul_comm s.io.toNat]
  exact halved_pair hpair

/-- The bit that leaves IO at the left end. -/
theorem toNat_sign (w : Word) : (sign w).toNat = w.toNat / 2 ^ 17 := by
  have hw : w.toNat < 2 ^ 18 := w.isLt
  cases h : sign w with
  | false =>
    rw [sign_eq_false_iff] at h
    rw [Nat.div_eq_of_lt h]
    rfl
  | true =>
    rw [sign_eq_true_iff] at h
    rw [Bool.toNat_true]
    omega

theorem toNat_not_sign (w : Word) : (!sign w).toNat = if w.toNat < 2 ^ 17 then 1 else 0 := by
  split
  · rename_i h
    rw [sign_eq_false_iff.mpr h]
    rfl
  · rename_i h
    rw [sign_eq_true_iff.mpr (not_lt.mp h)]
    rfl

/-- The minus-zero replacement on a number. -/
theorem plusZero_ofNat (n : Nat) : plusZero (BitVec.ofNat 18 n) =
    BitVec.ofNat 18 (if n % 2 ^ 18 = 0o777777 then 0 else n % 2 ^ 18) := by
  apply BitVec.eq_of_toNat_eq
  rw [toNat_plusZero, BitVec.toNat_ofNat, BitVec.toNat_ofNat]
  split_ifs <;> omega

/-- Settles O29: the shift left (`low_append_ofBool`) with the bits that enter, then the sum with its end-around carry. -/
theorem divideStep : Obligations.DivideStep := by
  intro s s1 i y e h b q a sum round
  have hac : (s.ac.extractLsb' 0 17 ++ BitVec.ofBool (bit 0 s.io) : Word) = BitVec.ofNat 18 a := by
    rw [low_append_ofBool, show bit 0 s.io = sign s.io from rfl, toNat_sign]
  have hio : (s.io.extractLsb' 0 17 ++ BitVec.ofBool (!sign s.ac) : Word) = BitVec.ofNat 18 (2 * s.io.toNat % 2 ^ 18 + q) := by
    rw [low_append_ofBool, toNat_not_sign]
  have ha : a < 2 ^ 18 := by
    have : s.io.toNat < 2 ^ 18 := s.io.isLt
    simp only [a]
    omega
  have hb : b < 2 ^ 18 := (s.readWord e).isLt
  have hq : bit 17 (BitVec.ofNat 18 (2 * s.io.toNat % 2 ^ 18 + q)) = true ↔ q = 1 := by
    rw [bit_seventeen_iff, BitVec.toNat_ofNat]
    simp only [q]
    split <;> omega
  have hsum : (if bit 17 (BitVec.ofNat 18 (2 * s.io.toNat % 2 ^ 18 + q)) then a + (~~~s.readWord e).toNat
      else a + (s.readWord e).toNat + 1) = sum := by
    rw [if_congr hq rfl rfl, toNat_complement]
  have hround : plusZero (if 2 ^ 18 ≤ sum then BitVec.ofNat 18 (sum + 1) else BitVec.ofNat 18 sum) =
      BitVec.ofNat 18 (if round = 0o777777 then 0 else round) := by
    simp only [round]
    split
    · rw [plusZero_ofNat]
    · rename_i hlt
      rw [plusZero_ofNat, Nat.mod_eq_of_lt (not_le.mp hlt)]
  have hexec : exec (.dis i y) s = .next { s with
      io := s.io.extractLsb' 0 17 ++ BitVec.ofBool (!sign s.ac)
      ac := plusZero (let sum := if bit 17 (s.io.extractLsb' 0 17 ++ BitVec.ofBool (!sign s.ac) : Word)
        then (s.ac.extractLsb' 0 17 ++ BitVec.ofBool (bit 0 s.io) : Word).toNat + (~~~s.readWord e).toNat
        else (s.ac.extractLsb' 0 17 ++ BitVec.ofBool (bit 0 s.io) : Word).toNat + (s.readWord e).toNat + 1
        if 2 ^ 18 ≤ sum then BitVec.ofNat 18 (sum + 1) else BitVec.ofNat 18 sum)
      mb := s.readWord e } := by
    show execDis i y s = _
    rw [execDis, withOperand_some h]
    rfl
  rw [hexec, hac, hio, BitVec.toNat_ofNat, Nat.mod_eq_of_lt ha, hsum, hround]

theorem magnitude_lt (w : Word) : magnitude w < 2 ^ 17 := by
  unfold magnitude
  have hw : w.toNat < 2 ^ 18 := w.isLt
  split
  · rename_i hs
    rw [sign_eq_true_iff] at hs
    rw [toNat_complement]
    omega
  · rename_i hs
    exact sign_eq_false_iff.mp (Bool.eq_false_iff.mpr hs)

/-- A product of magnitudes laid out in AC and IO, as the number of the combined register (decision D17). -/
theorem toNat_product {p : Nat} (hp : p < 2 ^ 17 * 2 ^ 17) :
    (BitVec.ofNat 18 (p / 2 ^ 17) ++ BitVec.ofNat 18 (p % 2 ^ 17 * 2) : BitVec 36).toNat = 2 * p := by
  have hhi : p / 2 ^ 17 < 2 ^ 17 := Nat.div_lt_of_lt_mul hp
  rw [BitVec.toNat_append, BitVec.toNat_ofNat, BitVec.toNat_ofNat,
    ← Nat.shiftLeft_add_eq_or_of_lt (Nat.mod_lt _ (by decide)), Nat.shiftLeft_eq]
  omega

/-- Settles O30: `toNat_product`, complemented where the signs differ. -/
theorem multiplyProduct : Obligations.MultiplyProduct := by
  intro s s1 i y e h
  have hp : magnitude s.ac * magnitude (s.readWord e) < 2 ^ 17 * 2 ^ 17 :=
    Nat.mul_lt_mul'' (magnitude_lt _) (magnitude_lt _)
  have hexec : exec (.mul i y) s =
      (let p := magnitude s.ac * magnitude (s.readWord e)
      if sign s.ac != sign (s.readWord e) && p != 0 then .next { s with
        ac := ~~~BitVec.ofNat 18 (p / 2 ^ 17), io := ~~~BitVec.ofNat 18 (p % 2 ^ 17 * 2), mb := s.readWord e }
      else .next { s with
        ac := BitVec.ofNat 18 (p / 2 ^ 17), io := BitVec.ofNat 18 (p % 2 ^ 17 * 2), mb := s.readWord e }) := by
    show execMul i y s = _
    rw [execMul, withOperand_some h]
    rfl
  rw [← magnitude_eq, ← magnitude_eq]
  generalize magnitude s.ac * magnitude (s.readWord e) = p at hp hexec
  have hcond : (sign s.ac != sign (s.readWord e) && p != 0) = true ↔ sign s.ac ≠ sign (s.readWord e) ∧ p ≠ 0 := by
    rw [Bool.and_eq_true, bne_iff_ne, bne_iff_ne]
  by_cases hneg : sign s.ac ≠ sign (s.readWord e) ∧ p ≠ 0
  · refine ⟨_, hexec.trans (if_pos (hcond.mpr hneg)), rfl, ?_⟩
    rw [if_pos hneg, State.combined, BitVec.not_append, BitVec.not_not, BitVec.not_not]
    exact toNat_product hp
  · refine ⟨_, hexec.trans (if_neg (mt hcond.mp hneg)), rfl, ?_⟩
    rw [if_neg hneg]
    exact toNat_product hp

/-- A magnitude with a sign: n, complemented where it is to be negative and is not zero (decision D18). -/
def signed (negative : Bool) (n : Nat) : Word :=
  if negative && (BitVec.ofNat 18 n : Word) != 0 then ~~~BitVec.ofNat 18 n else BitVec.ofNat 18 n

theorem signed_fields (negative : Bool) {n : Nat} (hn : n < 2 ^ 17) :
    (val (signed negative n)).natAbs = n ∧
      (sign (signed negative n) = true ↔ negative = true ∧ val (signed negative n) ≠ 0) := by
  have hnat : (BitVec.ofNat 18 n).toNat = n := by
    rw [BitVec.toNat_ofNat]
    omega
  have hval : val (BitVec.ofNat 18 n) = n := by rw [val_eq, hnat, if_pos hn]
  have hsign : sign (BitVec.ofNat 18 n) = false := sign_eq_false_iff.mpr (hnat.symm ▸ hn)
  have hzero : (BitVec.ofNat 18 n : Word) = 0 ↔ n = 0 :=
    ⟨fun h => hnat.symm.trans (congrArg BitVec.toNat h), fun h => h ▸ rfl⟩
  unfold signed
  split
  · rename_i hneg
    rw [Bool.and_eq_true, bne_iff_ne, Ne, hzero] at hneg
    obtain ⟨hnegative, hnonzero⟩ := hneg
    rw [val_complement, sign_complement, hval, hsign]
    exact ⟨by omega, fun _ => ⟨hnegative, by omega⟩, fun _ => rfl⟩
  · rename_i hneg
    rw [Bool.and_eq_true, bne_iff_ne, Ne, hzero] at hneg
    rw [hval, hsign]
    exact ⟨by omega, nofun, fun h => absurd ⟨h.1, by omega⟩ hneg⟩

/-- The dividend's magnitude: that of AC, then IO bits 0 to 16 on the side of the sign of AC (rule R119). -/
def dividend (ac io : Word) : Nat := magnitude ac * 2 ^ 17 + (if sign ac then ~~~io else io).toNat / 2

theorem exec_div {s s1 : State} {i : Bool} {y e : Addr} (h : s.ea i y = some (e, s1)) :
    exec (.div i y) s = if magnitude (s.readWord e) ≤ magnitude s.ac then .next { s with mb := s.readWord e }
      else .next { s with
        ac := signed (sign s.ac != sign (s.readWord e)) (dividend s.ac s.io / magnitude (s.readWord e))
        io := signed (sign s.ac) (dividend s.ac s.io % magnitude (s.readWord e)), pc := s.pc + 1, mb := s.readWord e } := by
  show execDiv i y s = _
  rw [execDiv, withOperand_some h]
  rfl

/-- Settles O31: the quotient and the remainder of the magnitudes with their signs (`signed_fields`). -/
theorem divideQuotient : Obligations.DivideQuotient := by
  intro s s1 i y e h
  have hexec := exec_div h
  have hlow : (if sign s.ac then ~~~s.io else s.io).toNat / 2 < 2 ^ 17 := Nat.div_lt_of_lt_mul (BitVec.isLt _)
  have hvlt : magnitude (s.readWord e) < 2 ^ 17 := magnitude_lt _
  rw [dividend] at hexec
  rw [← magnitude_eq, ← magnitude_eq]
  generalize magnitude (s.readWord e) = v at hexec hvlt
  generalize magnitude s.ac = hmag at hexec
  generalize (if sign s.ac then ~~~s.io else s.io).toNat / 2 = low at hexec hlow
  refine ⟨fun hle => hexec.trans (if_pos hle), fun hlt => ⟨_, hexec.trans (if_neg (not_le.mpr hlt)), rfl, ?_⟩⟩
  have hpos : 0 < v := Nat.zero_lt_of_lt hlt
  have hquot : (hmag * 2 ^ 17 + low) / v < 2 ^ 17 := by
    rw [Nat.div_lt_iff_lt_mul hpos]
    have : (hmag + 1) * 2 ^ 17 ≤ v * 2 ^ 17 := Nat.mul_le_mul_right _ hlt
    omega
  have hrem : (hmag * 2 ^ 17 + low) % v < v := Nat.mod_lt _ hpos
  obtain ⟨hqabs, hqsign⟩ := signed_fields (sign s.ac != sign (s.readWord e)) hquot
  obtain ⟨hrabs, hrsign⟩ := signed_fields (sign s.ac) (hrem.trans hvlt)
  refine ⟨?_, hrabs.trans_lt hrem, ?_, hrsign⟩
  · rw [hqabs, hrabs, Nat.mul_comm]
    exact Nat.div_add_mod _ v
  · rw [hqsign, bne_iff_ne]

end Sys2Proof.Machine
end

section
/-! PROOFS. The shift/rotate group (44_shift_rotate_group.md rules R200, R207 to R214): n one-place operations as one n-place
operation, bit for bit and as numbers, and the group's words. -/

namespace Sys2Proof.Machine

section
variable {v : Nat}

theorem times_zero (f : BitVec v → BitVec v) (r : BitVec v) : times 0 f r = r := rfl

theorem times_succ (k : Nat) (f : BitVec v → BitVec v) (r : BitVec v) : times (k + 1) f r = times k f (f r) := rfl

theorem rotateLeft1_eq (hv : 1 < v) (r : BitVec v) : rotateLeft1 r = r.rotateLeft 1 := by
  rw [BitVec.rotateLeft_def, Nat.mod_eq_of_lt hv]
  rfl

theorem rotateRight1_eq (hv : 1 < v) (r : BitVec v) : rotateRight1 r = r.rotateRight 1 := by
  rw [BitVec.rotateRight_def, Nat.mod_eq_of_lt hv]
  rfl

/-- n places to the left, one at a time: each place moves every bit one place on in the ring. -/
theorem times_rotateLeft {n : Nat} (hn : n < v) (r : BitVec v) : times n (place false false) r = r.rotateLeft n := by
  induction n generalizing r with
  | zero =>
    refine BitVec.eq_of_getMsbD_eq fun i hi => ?_
    rw [times_zero, BitVec.getMsbD_rotateLeft, Nat.zero_add, Nat.mod_eq_of_lt hi, decide_eq_true hi, Bool.true_and]
  | succ k ih =>
    rw [times_succ, ih (by omega), place, rotateLeft1_eq (by omega)]
    refine BitVec.eq_of_getMsbD_eq fun i hi => ?_
    have hring : (1 + (k + i) % v) % v = (k + 1 + i) % v := by
      rw [Nat.add_mod_mod]
      congr 1
      omega
    simp only [BitVec.getMsbD_rotateLeft, hring, Nat.mod_lt (k + i) (Nat.zero_lt_of_lt hi), decide_true, Bool.true_and]

/-- n places to the right, one at a time. -/
theorem times_rotateRight {n : Nat} (hn : n < v) (r : BitVec v) : times n (place true false) r = r.rotateRight n := by
  induction n generalizing r with
  | zero =>
    refine BitVec.eq_of_getElem_eq fun i hi => ?_
    simp [times_zero, BitVec.getElem_rotateRight, hi]
  | succ k ih =>
    rw [times_succ, ih (by omega), place, rotateRight1_eq (by omega)]
    refine BitVec.eq_of_getElem_eq fun i hi => ?_
    simp only [BitVec.getElem_rotateRight, Nat.mod_eq_of_lt hn, Nat.mod_eq_of_lt (show k < v by omega),
      Nat.mod_eq_of_lt (show 1 < v by omega)]
    grind

theorem msb_eq_getMsbD (r : BitVec v) : r.msb = r.getMsbD 0 := rfl

/-- One place to the left, bit for bit (rule R214). -/
theorem getMsbD_shiftLeft1 (r : BitVec v) {k : Nat} (hk : k < v) : (shiftLeft1 r).getMsbD k =
    if k = 0 then r.msb else if k + 1 < v then r.getMsbD (k + 1) else r.msb := by
  have hone : (1 : BitVec v).getMsbD k = decide (k = v - 1) := by
    rw [show (1 : BitVec v) = 1#v from rfl, BitVec.getMsbD_one, decide_eq_true (show 0 < v by omega), Bool.and_true]
  have hmin : (BitVec.intMin v).getMsbD k = decide (k = 0) := by
    rw [BitVec.getMsbD_intMin, decide_eq_true (show 0 < v by omega), Bool.true_and]
  unfold shiftLeft1
  cases hs : r.msb with
  | true =>
    rw [if_pos rfl, BitVec.getMsbD_or, BitVec.getMsbD_or, hone, hmin, BitVec.getMsbD_shiftLeft]
    split_ifs with h0 hlast
    · rw [decide_eq_true h0, Bool.or_true]
    · rw [decide_eq_false h0, decide_eq_false (show k ≠ v - 1 by omega), Bool.or_false, Bool.or_false]
    · rw [decide_eq_true (show k = v - 1 by omega), Bool.or_true, Bool.true_or]
  | false =>
    rw [if_neg Bool.false_ne_true, BitVec.getMsbD_and, BitVec.getMsbD_not, hmin, decide_eq_true hk, BitVec.getMsbD_shiftLeft]
    split_ifs with h0 hlast
    · rw [decide_eq_true h0, Bool.not_true, Bool.true_and, Bool.and_false]
    · rw [decide_eq_false h0, Bool.not_false, Bool.true_and, Bool.and_true]
    · rw [BitVec.getMsbD_of_ge _ _ (by omega), Bool.false_and]

/-- n places to the left, bit for bit. -/
theorem getMsbD_times_shiftLeft (n : Nat) (r : BitVec v) {k : Nat} (hk : k < v) :
    (times n (place false true) r).getMsbD k =
      if k = 0 then r.msb else if k + n < v then r.getMsbD (k + n) else r.msb := by
  induction n generalizing r with
  | zero =>
    rw [times_zero, Nat.add_zero, if_pos hk, msb_eq_getMsbD]
    split
    · rename_i h0
      rw [h0]
    · rfl
  | succ n ih =>
    have hmsb : (shiftLeft1 r).msb = r.msb := by
      rw [msb_eq_getMsbD, getMsbD_shiftLeft1 r (by omega), if_pos rfl]
    rw [times_succ, ih, place, hmsb]
    split_ifs
    · rfl
    · rw [getMsbD_shiftLeft1 r (by omega), if_neg (by omega), if_pos (by omega)]
      rfl
    · rw [getMsbD_shiftLeft1 r (by omega), if_neg (by omega), if_neg (by omega)]
    · omega
    · rfl

/-- n places to the right is one arithmetic shift. -/
theorem times_shiftRight (n : Nat) (r : BitVec v) : times n (place true true) r = r.sshiftRight n := by
  induction n generalizing r with
  | zero => rw [times_zero, BitVec.sshiftRight_zero]
  | succ n ih =>
    rw [times_succ, ih, place, Nat.add_comm, BitVec.sshiftRight_add]
    rfl

theorem getMsbD_times_shiftRight (n : Nat) (r : BitVec v) {k : Nat} (hk : k < v) :
    (times n (place true true) r).getMsbD k = if k ≤ n then r.msb else r.getMsbD (k - n) := by
  rw [times_shiftRight, BitVec.getMsbD_sshiftRight, decide_eq_true hk, Bool.true_and]
  rcases Nat.lt_trichotomy k n with h | rfl | h
  · rw [if_pos h, if_pos h.le]
  · rw [if_neg (lt_irrefl k), if_pos le_rfl, Nat.sub_self]
    rfl
  · rw [if_neg h.not_gt, if_neg h.not_ge]

end

theorem sign_eq_msb (w : Word) : sign w = w.msb := (BitVec.msb_eq_getLsbD_last w).symm

theorem State.msb_combined (s : State) : s.combined.msb = sign s.ac := by
  rw [State.combined, BitVec.msb_append, if_neg (by decide), sign_eq_msb]

theorem State.combined_shiftBoth (s : State) (right shift : Bool) (mask : BitVec 9) :
    (s.shiftBoth right shift mask).combined = times (popcount mask) (place right shift) s.combined := by
  rw [State.combined, State.shiftBoth_ac, State.shiftBoth_io]
  exact (BitVec.extractLsb'_append_extractLsb'_eq_extractLsb' rfl).trans BitVec.extractLsb'_eq_self

theorem popcount_le (mask : BitVec 9) : popcount mask ≤ 9 := by
  rw [popcount_eq_countP]
  exact List.countP_le_length

/-- Settles O42: the rotations n at a time (`times_rotateLeft`, `times_rotateRight`). -/
theorem rotateInstructions : Obligations.RotateInstructions := by
  intro s mask n
  have hn : popcount mask = n := popcount_eq_countP mask
  have hle : n ≤ 9 := hn ▸ popcount_le mask
  clear_value n
  subst hn
  refine ⟨?_, ?_, ?_, ?_, ⟨_, rfl, rfl, ?_⟩, ⟨_, rfl, rfl, ?_⟩⟩
  · rw [← times_rotateLeft (by omega)]
    rfl
  · rw [← times_rotateRight (by omega)]
    rfl
  · rw [← times_rotateLeft (by omega)]
    rfl
  · rw [← times_rotateRight (by omega)]
    rfl
  · rw [State.combined_shiftBoth, times_rotateLeft (by omega)]
  · rw [State.combined_shiftBoth, times_rotateRight (by omega)]

/-- Settles O43: the shifts bit for bit (`getMsbD_times_shiftLeft`, `getMsbD_times_shiftRight`). -/
theorem shiftInstructions : Obligations.ShiftInstructions := by
  intro s mask n
  have hn : popcount mask = n := popcount_eq_countP mask
  clear_value n
  subst hn
  simp only [sign_eq_msb s.io]
  simp only [sign_eq_msb s.ac]
  refine ⟨⟨_, rfl, rfl, fun k hk => ?_⟩, ⟨_, rfl, rfl, fun k hk => ?_⟩, ⟨_, rfl, rfl, fun k hk => ?_⟩,
    ⟨_, rfl, rfl, fun k hk => ?_⟩, ⟨_, rfl, rfl, fun k hk => ?_⟩, ⟨_, rfl, rfl, fun k hk => ?_⟩⟩
  · exact getMsbD_times_shiftLeft _ _ hk
  · exact getMsbD_times_shiftRight _ _ hk
  · exact getMsbD_times_shiftLeft _ _ hk
  · exact getMsbD_times_shiftRight _ _ hk
  · rw [State.combined_shiftBoth, getMsbD_times_shiftLeft _ _ hk, State.msb_combined, sign_eq_msb]
  · rw [State.combined_shiftBoth, getMsbD_times_shiftRight _ _ hk, State.msb_combined, sign_eq_msb]

theorem shiftLeft1_complement (r : Word) : shiftLeft1 (~~~r) = ~~~shiftLeft1 r := by
  refine BitVec.eq_of_getMsbD_eq fun k hk => ?_
  rw [BitVec.getMsbD_not, getMsbD_shiftLeft1 _ hk, getMsbD_shiftLeft1 _ hk, BitVec.msb_not]
  split_ifs with h0 hlast
  · rw [decide_eq_true hk]
    rfl
  · rw [BitVec.getMsbD_not, decide_eq_true hk, decide_eq_true hlast]
  · rw [decide_eq_true hk]
    rfl

/-- One place to the left doubles a number of sign 0, but for the bit that is lost. -/
theorem toNat_shiftLeft1 {r : Word} (h : sign r = false) : (shiftLeft1 r).toNat = 2 * r.toNat % 2 ^ 17 := by
  have hmin : (~~~BitVec.intMin 18).toNat = 2 ^ 17 - 1 := by decide
  rw [sign_eq_msb] at h
  rw [shiftLeft1, if_neg (by rw [h]; decide), BitVec.toNat_and, hmin, Nat.and_two_pow_sub_one_eq_mod, BitVec.toNat_shiftLeft,
    Nat.shiftLeft_eq]
  omega

/-- One place to the left doubles the integer while nothing is lost. -/
theorem val_shiftLeft1 {r : Word} (h : -131071 ≤ 2 * val r ∧ 2 * val r ≤ 131071) : val (shiftLeft1 r) = 2 * val r := by
  have hpos {w : Word} (hs : sign w = false) (hw : 2 * val w ≤ 131071) : val (shiftLeft1 w) = 2 * val w := by
    have hlt := sign_eq_false_iff.mp hs
    rw [val_eq, if_pos hlt] at hw
    rw [val_eq, val_eq, toNat_shiftLeft1 hs, if_pos hlt, if_pos (Nat.mod_lt _ (by decide))]
    omega
  obtain ⟨hlow, hhigh⟩ := h
  cases hs : sign r with
  | false => exact hpos hs hhigh
  | true =>
    have hcomp : sign (~~~r) = false := by rw [sign_complement, hs]; rfl
    have hval := hpos hcomp (by rw [val_complement]; omega)
    rw [shiftLeft1_complement, val_complement, val_complement] at hval
    omega

theorem val_times_shiftLeft (n : Nat) (r : Word) (h : -131071 ≤ val r * 2 ^ n ∧ val r * 2 ^ n ≤ 131071) :
    val (times n (place false true) r) = val r * 2 ^ n := by
  induction n generalizing r with
  | zero => rw [times_zero, pow_zero, mul_one]
  | succ n ih =>
    have hstep : val r * 2 ^ (n + 1) = 2 * val r * 2 ^ n := by ring
    rw [hstep] at h ⊢
    have hone : (1 : Int) ≤ 2 ^ n := one_le_pow₀ (by decide)
    have hval : val (place false true r) = 2 * val r :=
      val_shiftLeft1 ⟨by nlinarith, by nlinarith⟩
    rw [times_succ, ih, hval]
    rwa [hval]

/-- The arithmetic shift to the right halves a number of sign 0, n times. -/
theorem val_sshiftRight (n : Nat) (r : Word) : val (r.sshiftRight n) = (val r).tdiv (2 ^ n) := by
  have hpos {w : Word} (hs : sign w = false) : val (w.sshiftRight n) = (val w).tdiv (2 ^ n) := by
    have hlt := sign_eq_false_iff.mp hs
    have hshift : (w.sshiftRight n).toNat = w.toNat / 2 ^ n := by
      rw [BitVec.sshiftRight_eq_of_msb_false (sign_eq_msb w ▸ hs), BitVec.toNat_ushiftRight, Nat.shiftRight_eq_div_pow]
    rw [val_eq, val_eq, hshift, if_pos ((Nat.div_le_self _ _).trans_lt hlt), if_pos hlt]
    rfl
  cases hs : sign r with
  | false => exact hpos hs
  | true =>
    have hcomp : sign (~~~r) = false := by rw [sign_complement, hs]; rfl
    have hval := hpos hcomp
    rw [← BitVec.not_sshiftRight, val_complement, val_complement, Int.neg_tdiv] at hval
    exact neg_inj.mp hval

/-- Settles O44: the shifts on numbers (`val_times_shiftLeft`, `val_sshiftRight`). -/
theorem shiftsMultiplyAndDivide : Obligations.ShiftsMultiplyAndDivide := by
  intro s mask n
  have hn : popcount mask = n := popcount_eq_countP mask
  clear_value n
  subst hn
  refine ⟨fun h => ⟨_, rfl, val_times_shiftLeft _ _ h⟩, _, rfl, ?_⟩
  rw [times_shiftRight, val_sshiftRight]

/-- What a shift/rotate word does, by the register it selects. -/
theorem exec_sft (s : State) (bits : BitVec 13) : exec (.sft bits) s = .next (match bit 7 bits, bit 8 bits with
    | false, true => s.shiftAc (bit 5 bits) (bit 6 bits) (bits.extractLsb' 0 9)
    | true, false => s.shiftIo (bit 5 bits) (bit 6 bits) (bits.extractLsb' 0 9)
    | true, true => s.shiftBoth (bit 5 bits) (bit 6 bits) (bits.extractLsb' 0 9)
    | false, false => s) := by
  show execSft bits s = _
  unfold execSft
  cases bit 7 bits <;> cases bit 8 bits <;> rfl

/-- A shift/rotate word does what the row its bits decode to does. -/
theorem exec_sft_eq_decodeShift (s : State) (bits : BitVec 13) : exec (.sft bits) s = exec (decodeShift bits) s := by
  unfold decodeShift
  dsimp only
  split
  case h_13 h7 h8 =>
    split
    · rename_i h0
      rw [h0]
    · rw [exec_sft, h7, h8]
      rfl
  all_goals
    rename_i h5 h6 h7 h8
    rw [exec_sft, h5, h6, h7, h8]
    rfl

/-- A count mask of zero makes no step. -/
theorem times_popcount_zero {v : Nat} (f : BitVec v → BitVec v) (r : BitVec v) : times (popcount 0) f r = r := rfl

theorem State.shiftBoth_zero (s : State) (right shift : Bool) : s.shiftBoth right shift 0 = s := by
  have hac : s.combined.extractLsb' 18 18 = s.ac := BitVec.extractLsb'_append_eq_left
  have hio : s.combined.extractLsb' 0 18 = s.io := BitVec.extractLsb'_append_eq_right
  rw [State.shiftBoth, times_popcount_zero, hac, hio]

/-- Settles O45: `exec_sft`; a count mask of zero makes no step. -/
theorem shiftGroupWord : Obligations.ShiftGroupWord := by
  refine ⟨fun s bits => ⟨exec_sft_eq_decodeShift s bits, ⟨_, exec_sft s bits, ?_⟩, ?_⟩, fun s right shift mask => rfl⟩
  · cases bit 7 bits <;> cases bit 8 bits <;> rfl
  · rintro (⟨h7, h8⟩ | hmask)
    · rw [exec_sft, h7, h8]
    · rw [exec_sft, hmask]
      cases bit 7 bits with
      | false => cases bit 8 bits <;> rfl
      | true => cases bit 8 bits with
        | false => rfl
        | true => exact congrArg _ (s.shiftBoth_zero _ _)

end Sys2Proof.Machine
end

section
/-! PROOFS. The in-out transfers (45_iot_standard.md, 46_iot_options.md): every in-out instruction is the transfer of its
word, the one claimant's answer is received, and `ioh` takes a pulse. -/

namespace Sys2Proof.Machine

/-! ### An in-out instruction is the transfer of its word (rule R220) -/

theorem not_inOutInstr_of_groupWord {i : Instr} {op : BitVec 5} {bits : BitVec 13} (h : encode i = groupWord op bits)
    (hop : op ≠ 29) : ¬inOutInstr i = true := by
  rwa [inOutInstr, h, opField_groupWord, beq_iff_eq]

theorem not_inOutInstr_of_mkWord {i : Instr} {op : BitVec 5} {d : Bool} {y : Addr} (h : encode i = mkWord op d y)
    (hop : op ≠ 29) : ¬inOutInstr i = true :=
  not_inOutInstr_of_groupWord (h.trans (mkWord_eq_groupWord op d y)) hop

theorem exec_inOut {i : Instr} (hi : inOutInstr i = true) (hd : deviceOf i ≠ some .pdp1dInOut) (s : State) :
    exec i s = s.inOut (encode i) := by
  cases i with
  | ioh => exact (if_pos rfl).symm
  -- the PDP-1D functions, which have no transfer
  | erg | lrg | lrm | erm | rnm | rsm | rck | ctb | rro | rri | gcf => exact absurd rfl hd
  -- the instructions of the other operation codes
  | and | ior | xor | xct | lac | lio | dac | dap | dip | dio | dzm | add | sub | idx | isp | sad | sas | mus | mul | dis
  | div | jmp | jsp | cal | jda | law | lawNeg | sma | spa | spi | sza | szo | szf | szs | sni | szi | lch | dch | tad =>
    exact absurd hi (not_inOutInstr_of_mkWord rfl (by decide))
  | spare00 | spare12 | spare14 | spare36 | spare74 | skp | sft | ral | rar | rcl | rcr | ril | rir | sal | sar | scl | scr
  | sil | sir | sftNoRegister | opr | nop | cla | cli | cma | hlt | lap | lat | clf | stf | lia | lai | swp | cmi | special
  | ifi | idc | ida | scm | sci | scf | szl | cll | cml =>
    exact absurd hi (not_inOutInstr_of_groupWord rfl (by decide))
  | _ => rfl

/-- The PDP-1D functions are refused (rule R339 to R349, decision D32). -/
theorem exec_pdp1dInOut {i : Instr} (h : deviceOf i = some .pdp1dInOut) (s : State) :
    exec i s = .refused .pdp1dInOut := by
  cases i with
  | erg | lrg | lrm | erm | rnm | rsm | rck | ctb | rro | rri | gcf => rfl
  | _ => exact absurd h (by simp [deviceOf])

theorem inOut_of_claimants {s : State} {o : Opt} {w : Word} (h : claimants s.cfg w = [o]) : s.inOut w = s.handOver o w := by
  rw [State.inOut, if_neg (ne_ioh_of_claimants h), h]

/-- The hand-over is a transfer, where it is not refused: the drum's set-up moves on first, and for another option d is the
set-up as it is (rules R220, R363, R384). -/
theorem handOver_eq_transfer {s : State} {o : Opt} {w : Word} (h1d : o ≠ .pdp1dInOut)
    (hbreak : o = .type120 → s.cfg.breaks = true) {d : DrumSetup} (hdrum : o = .type23 → drumNext s.drum w = some d)
    (hother : o ≠ .type23 → d = s.drum) : s.handOver o w = { s with drum := d }.transfer o w := by
  unfold State.handOver
  split
  · rw [if_pos (hbreak rfl), hother (by decide)]
  · rw [hdrum rfl]
  · exact absurd rfl h1d
  · rename_i h23 _
    rw [hother h23]

theorem transfer_now {s : State} {w : Word} (h : iBit w = false) (o : Opt) :
    s.transfer o w = .next (s.received o w (s.answer o w)) := by
  simp only [State.transfer, h]
  rfl

theorem transfer_wait {s : State} {w : Word} (h : iBit w = true) (o : Opt) :
    s.transfer o w = if (s.answer o w).dev.done
      then .next (s.received o w { s.answer o w with dev := pulsed o (s.answer o w).dev }) else .fault .inOutWait := by
  simp only [State.transfer, h]
  rfl

/-! ### What a received answer leaves -/

theorem mem_displays_iff {s : State} {o p : Opt} {w : Word} : p ∈ s.displays o w ↔
    loadsDisplay o w = true ∧ p ∈ s.cfg.installed ∧ (p = .type30 ∨ p = .type31) := by
  constructor
  · intro h
    obtain ⟨hl, hi, hp, -⟩ := mem_displays h
    exact ⟨hl, hi, hp⟩
  · rintro ⟨hl, hi, hp⟩
    rw [State.displays, if_pos hl, List.mem_filter, Bool.or_eq_true, beq_iff_eq, beq_iff_eq]
    exact ⟨hi, hp⟩

theorem received_devicesAfter (o : Opt) (i : Instr) (s : State) (r : DevResult) :
    devicesAfter o i s (s.received o (encode i) r) r.dev := by
  rw [received_eq]
  refine ⟨fun h => devsAfter_eq h s r.dev, ?_, fun p hp => ?_⟩
  · rw [devOf_devsAfter, if_pos rfl]
  · rw [devOf_devsAfter, if_neg hp]
    exact if_congr mem_displays_iff rfl rfl

/-- Only the symbol generator's `sdb` loads displays (rule R247). -/
theorem loadsDisplay_of_ne {o : Opt} (h : o ≠ .type33) (w : Word) : loadsDisplay o w = false := by
  rw [loadsDisplay, beq_eq_false_iff_ne.mpr h]
  rfl

/-- The last word stored at an address is what it reads as after several stores. -/
theorem memRead_storeAll (ws : List (Addr × Word)) (m : Mem) (a : Addr) : memRead (storeAll m ws) a.toNat =
    ((ws.reverse.find? fun w => w.1 == a).map (·.2)).getD (memRead m a.toNat) := by
  induction ws generalizing m with
  | nil => rfl
  | cons w r ih =>
    have hstep : storeAll m (w :: r) = storeAll (memWrite m w.1.toNat w.2) r := rfl
    rw [hstep, ih, List.reverse_cons, List.find?_append, memRead_memWrite]
    cases hf : r.reverse.find? (fun w => w.1 == a) with
    | some v => rfl
    | none =>
      by_cases ha : w.1 = a
      · simp [ha]
      · have hne : a.toNat ≠ w.1.toNat := fun h => ha (BitVec.eq_of_toNat_eq h).symm
        simp [ha, hne]

theorem received_readWord (s : State) (o : Opt) (w : Word) (r : DevResult) (a : Addr) :
    (s.received o w r).readWord a = if movesBlocks o then readAfter r.writes s a else s.readWord a := by
  rw [State.readWord_eq, received_mem]
  split
  · exact memRead_storeAll r.writes s.mem a
  · rfl

/-- A plain transfer: neither Type 120, nor the drum, nor the PDP-1D functions. -/
theorem handOver_plain {s : State} {o : Opt} (w : Word) (h1d : o ≠ .pdp1dInOut) (h120 : o ≠ .type120)
    (h23 : o ≠ .type23) : s.handOver o w = s.transfer o w :=
  handOver_eq_transfer h1d (fun h => absurd h h120) (fun h => absurd h h23) fun _ => rfl

section
variable {i : Instr} {s : State} {o : Opt}

theorem exec_of_claimants (hi : inOutInstr i = true) (hd : deviceOf i ≠ some .pdp1dInOut)
    (hc : claimants s.cfg (encode i) = [o]) : exec i s = s.handOver o (encode i) :=
  (exec_inOut hi hd s).trans (inOut_of_claimants hc)

end

/-! ### Refusals (rules R220, R248, D24, D32) -/

/-- Two claimants refuse a word. -/
theorem inOut_of_two {s : State} {w : Word} (hw : w ≠ 0o730000) (h : 1 < (claimants s.cfg w).length) :
    s.inOut w = .refused .twoOptionsClaim := by
  rw [State.inOut, if_neg hw]
  split
  · rename_i hc
    rw [hc] at h
    exact absurd h (by decide)
  · rename_i hc
    rw [hc] at h
    exact absurd h (lt_irrefl 1)
  · rfl

/-- The word of `dpp` is one of the Type 30 (with intensity 4) and one of the Type 31. -/
theorem optClaims_dpp (wait : Bool) (o : Opt) :
    optClaims o (iotWord wait 0o04 0o07) = (o == .type30 || o == .type31) := by
  cases wait <;> cases o <;> decide

theorem iotWord_ne_ioh {wait : Bool} {ctl dev : BitVec 6} (h : dev ≠ 0) : iotWord wait ctl dev ≠ 0o730000 := by
  intro he
  have hdev := congrArg devField he
  rw [devField_iotWord] at hdev
  exact h hdev

theorem one_lt_length {l : List Opt} {a b : Opt} (ha : a ∈ l) (hb : b ∈ l) (h : a ≠ b) : 1 < l.length := by
  match l with
  | [] => cases ha
  | [c] => exact absurd ((List.mem_singleton.mp ha).trans (List.mem_singleton.mp hb).symm) h
  | _ :: _ :: _ => simp

theorem installed_nodup (cfg : Config) : cfg.installed.Nodup :=
  List.Nodup.filter _ (by decide)

/-- Settles O46: the claimants decide (rule R220); the two displays both claim `dpp` unless one is narrowed. -/
theorem unclaimedInOutRefused : Obligations.UnclaimedInOutRefused := by
  refine ⟨fun i s hi hd hw => ⟨fun hc => ?_, fun hc => ?_⟩, fun s wait h30 h31 => ⟨fun hn => ?_, fun hn => ?_⟩⟩
  · rw [exec_inOut hi hd, State.inOut, if_neg hw, hc]
  · rw [exec_inOut hi hd, inOut_of_two hw hc]
  · refine inOut_of_two (iotWord_ne_ioh (by decide)) (one_lt_length (a := .type30) (b := .type31) ?_ ?_ (by decide))
    all_goals
      rw [claimants, List.mem_filter, optClaims_dpp, narrowedOut, hn]
      exact ⟨by assumption, rfl⟩
  · have hleft (o : Opt) : (optClaims o (iotWord wait 0o04 0o07) && !narrowedOut s.cfg o (iotWord wait 0o04 0o07)) =
        (o == .type31) := by
      rw [narrowedOut, hn, List.any_cons, List.any_nil, optClaims_dpp, optClaims_dpp]
      cases o <;> rfl
    rw [encode, claimants, funext hleft, List.filter_beq, List.count_eq_one_of_mem (installed_nodup _) h31]
    rfl

/-- Settles O54: each of these answers its refusal by definition. -/
theorem pdpOneDStops : Obligations.PdpOneDStops := by
  refine fun s => ⟨fun i y => ⟨rfl, rfl, rfl⟩, ?_, fun bits => rfl, fun wait => ?_, fun wait xx => ?_⟩
  all_goals simp only [List.forall_mem_cons, List.not_mem_nil, false_implies, implies_true, and_true]
  · exact ⟨rfl, rfl, rfl, rfl, rfl, rfl, rfl, rfl, rfl⟩
  · exact ⟨rfl, rfl, rfl, rfl, rfl, rfl, rfl⟩
  · exact ⟨rfl, rfl, rfl, rfl⟩

/-! ### Transfers (rules R220, R221, R363, R384) -/

/-- Settles O47: the hand-over is a plain transfer, whose answer is received at once. -/
theorem deviceTransferCompletes : Obligations.DeviceTransferCompletes := by
  intro i s o hi hd hc hwait hblock h120 h1d
  have h23 : o ≠ .type23 := by
    rintro rfl
    cases hblock
  have hexec : exec i s = .next (s.received o (encode i) (answer o i s)) := by
    rw [exec_of_claimants hi hd hc, handOver_plain _ h1d h120 h23, transfer_now hwait]
    rfl
  refine ⟨_, hexec, ?_, received_devicesAfter o i s _⟩
  rw [received_eq, hblock]
  rfl

/-- Settles O48: Type 120 is handed its word only with the mechanism. -/
theorem sequenceBreakInstructions : Obligations.SequenceBreakInstructions := by
  intro i s hi hd hc
  rw [exec_of_claimants hi hd hc]
  refine ⟨fun hb => ?_, fun hb hwait => ?_⟩
  · simp only [State.handOver, hb]
    rfl
  · rw [handOver_eq_transfer (o := .type120) (d := s.drum) (by decide) (fun _ => hb) nofun (fun _ => rfl),
      (transfer_now (by exact hwait) _ :), received_eq, devsAfter_eq (loadsDisplay_of_ne (by decide) _)]
    rfl

/-- Settles O49: a plain transfer of a block mover, whose words are stored in order (`received_readWord`). -/
theorem blockTransferCompletes : Obligations.BlockTransferCompletes := by
  intro i s o hi hd hc hwait ho
  obtain ⟨h1d, h120, h23, h33, hblock⟩ : o ≠ .pdp1dInOut ∧ o ≠ .type120 ∧ o ≠ .type23 ∧ o ≠ .type33 ∧
      movesBlocks o = true := by
    rcases ho with rfl | rfl | rfl <;> decide
  have hexec : exec i s = .next (s.received o (encode i) (answer o i s)) := by
    rw [exec_of_claimants hi hd hc, handOver_plain _ h1d h120 h23, transfer_now hwait]
    rfl
  refine ⟨_, hexec, ?_, fun a => ?_⟩
  · rw [received_eq, devsAfter_eq (loadsDisplay_of_ne h33 _)]
  · rw [received_readWord, if_pos hblock]

/-- What the drum does with a word of its own, where the set-up order is kept. -/
theorem exec_drum {i : Instr} {s : State} {next : DrumSetup} (hi : inOutInstr i = true)
    (hd : deviceOf i ≠ some .pdp1dInOut) (hc : claimants s.cfg (encode i) = [.type23]) (hwait : iBit (encode i) = false)
    (hnext : drumNext s.drum (encode i) = some next) :
    ∃ t, exec i s = .next t ∧
      t = { s with
        io := (answer .type23 i s).io, pf := (answer .type23 i s).pf
        devs := setDev .type23 (answer .type23 i s).dev s.devs, drum := next
        pc := if (answer .type23 i s).skip then s.pc + 1 else s.pc, mem := t.mem, mb := t.mb } ∧
      ∀ a, t.readWord a = readAfter (answer .type23 i s).writes s a := by
  have hexec : exec i s = .next ({ s with drum := next }.received .type23 (encode i) (answer .type23 i s)) := by
    rw [exec_of_claimants hi hd hc, handOver_eq_transfer (o := .type23) (by decide) nofun (fun _ => hnext) (fun h => absurd rfl h),
      transfer_now hwait]
    rfl
  refine ⟨_, hexec, ?_, fun a => received_readWord _ _ _ _ a⟩
  rw [received_eq, devsAfter_eq (loadsDisplay_of_ne (by decide) _)]

theorem drumNext_iotWord (d : DrumSetup) (wait : Bool) (ctl dev : BitVec 6) : drumNext d (iotWord wait ctl dev) =
    if dev = 0o63 then (if d = .counted then some .idle else none) else if ctl = 0o20 then some d
    else if dev = 0o61 then some .addressed else if d = .addressed then some .counted else none := by
  rw [drumNext, devField_iotWord, ctlField_iotWord]

theorem handOver_drum_none {s : State} {w : Word} (h : drumNext s.drum w = none) :
    s.handOver .type23 w = .refused .drumOutOfOrder := by
  simp only [State.handOver, h]

/-- Settles O50: the set-up order by the five words (`drumNext_iotWord`). -/
theorem drumInstructions : Obligations.DrumInstructions := by
  intro i s hc
  constructor
  · rintro next (⟨xx, rfl, hxx, rfl⟩ | ⟨xx, rfl, hxx, hdrum, rfl⟩ | ⟨xx, rfl, hdrum, rfl⟩ | ⟨rfl | rfl, rfl⟩)
    all_goals
      refine exec_drum (inOutInstr_of_encode rfl) nofun hc (iBit_iotWord _ _ _) ?_
      rw [encode, drumNext_iotWord]
    · rw [if_neg (by decide), if_neg hxx, if_pos rfl]
    · rw [if_neg (by decide), if_neg hxx, if_neg (by decide), if_pos hdrum]
    · rw [if_pos rfl, if_pos hdrum]
    · rw [if_neg (by decide), if_pos rfl]
    · rw [if_neg (by decide), if_pos rfl]
  · rintro ⟨wait, xx, ⟨rfl, hxx, hdrum⟩ | ⟨rfl, hdrum⟩⟩
    all_goals
      refine (exec_of_claimants (inOutInstr_of_encode rfl) (by nofun) hc).trans (handOver_drum_none ?_)
      rw [encode, drumNext_iotWord]
    · rw [if_neg (by decide), if_neg hxx, if_neg (by decide), if_neg hdrum]
    · rw [if_pos rfl, if_neg hdrum]

/-- The drum's set-up that a transfer with the option leaves. -/
theorem exists_drumSetup {s : State} {o : Opt} {w : Word} (h : o = .type23 → drumNext s.drum w ≠ none) :
    ∃ d, (o = .type23 → drumNext s.drum w = some d) ∧ (o ≠ .type23 → d = s.drum) := by
  by_cases ho : o = .type23
  · obtain ⟨d, hd⟩ := Option.ne_none_iff_exists'.mp (h ho)
    exact ⟨d, fun _ => hd, fun hne => absurd ho hne⟩
  · exact ⟨s.drum, fun h => absurd h ho, fun _ => rfl⟩

/-- Settles O51: the state received with the pulse, reached where the answer has reached done (`transfer_wait`). -/
theorem waitBitWaitsForDone : Obligations.WaitBitWaitsForDone := by
  intro i s o hi hd hc hwait h1d h120 h23
  obtain ⟨d, hdrum, hother⟩ := exists_drumSetup h23
  have hexec := exec_of_claimants hi hd hc
  rw [handOver_eq_transfer h1d h120 hdrum hother, transfer_wait hwait] at hexec
  refine ⟨_, hexec, ?_, received_devicesAfter o i { s with drum := d } _, received_readWord _ _ _ _, ?_, ?_, ?_⟩
  all_goals rw [received_eq]
  · rfl
  · intro hb
    rw [hb]
    rfl
  · exact hother
  · exact hdrum

/-- A transfer that answers a state is the wait of `ioh`, or a received answer of the one claimant. -/
theorem inOut_received {s t : State} {w : Word} (h : s.inOut w = .next t) :
    (w = 0o730000 ∧ ∃ devs, t = { s with devs := devs }) ∨
      ∃ o d r, claimants s.cfg w = [o] ∧ t = { s with drum := d }.received o w r := by
  obtain ⟨hw, hwait⟩ | ⟨o, hc, ho⟩ := inOut_next h
  · obtain ⟨p, -, -, ht⟩ := ioWait_next hwait
    exact .inl ⟨hw, _, ht⟩
  · have hreceived {u : State} (hu : u.transfer o w = .next t) : ∃ r, t = u.received o w r := by
      obtain ⟨-, ht⟩ | ⟨-, -, ht⟩ := transfer_next hu
      all_goals exact ⟨_, ht⟩
    obtain ⟨-, ht⟩ | ⟨rfl, d, -, ht⟩ := handOver_next ho
    · obtain ⟨r, ht⟩ := hreceived ht
      exact .inr ⟨o, s.drum, r, hc, ht⟩
    · obtain ⟨r, ht⟩ := hreceived ht
      exact .inr ⟨_, d, r, hc, ht⟩

/-- Another device keeps its state in a transfer, but that a display which `sdb` loads keeps only its done. -/
theorem devOf_received_other {s : State} {o p : Opt} (hp : p ≠ o) (w : Word) (r : DevResult) :
    (devOf p (s.received o w r).devs).done = (devOf p s.devs).done ∧
      (¬(loadsDisplay o w = true ∧ (p = .type30 ∨ p = .type31)) → devOf p (s.received o w r).devs = devOf p s.devs) := by
  rw [received_eq]
  dsimp only
  rw [devOf_devsAfter, if_neg hp]
  split
  · rename_i hd
    obtain ⟨hl, -, hdisplay⟩ := mem_displays_iff.mp hd
    exact ⟨rfl, fun hn => absurd ⟨hl, hdisplay⟩ hn⟩
  · exact ⟨rfl, fun _ => rfl⟩

/-! ### `ioh` (rule R222) -/

theorem mem_pulses {s : State} {o : Opt} : o ∈ s.pulses ↔ o ∈ s.cfg.installed ∧ (devOf o s.devs).done = true :=
  List.mem_filter

/-- With a pulse outstanding `ioh` completes. -/
theorem ioWait_of_pulse {s : State} {o : Opt} (h : o ∈ s.pulses) : ∃ t, s.ioWait = .next t := by
  rw [State.ioWait, if_neg (List.ne_nil_of_mem (mem_pulses.mp h).1)]
  split
  · rename_i hp
    rw [hp] at h
    cases h
  · exact ⟨_, rfl⟩

/-- With none outstanding there is none to take. -/
theorem pulses_eq_nil {s : State} (h : ∀ o ∈ s.cfg.installed, (devOf o s.devs).done = false) : s.pulses = [] := by
  refine List.eq_nil_iff_forall_not_mem.mpr fun o ho => ?_
  obtain ⟨hi, hdone⟩ := mem_pulses.mp ho
  exact Bool.false_ne_true ((h o hi).symm.trans hdone)

/-- Settles O53: which pulse is taken (`ioWait_next`), and that a pulse taken is no longer outstanding. -/
theorem iohWaitsForPulse : Obligations.IohWaitsForPulse := by
  have htakes (s : State) (h : ∃ o ∈ s.cfg.installed, (devOf o s.devs).done = true) :
      ∃ o ∈ s.cfg.installed, (devOf o s.devs).done = true ∧
        exec .ioh s = .next { s with devs := setDev o (pulsed o (devOf o s.devs)) s.devs } := by
    obtain ⟨o, hi, hdone⟩ := h
    obtain ⟨t, ht⟩ := ioWait_of_pulse (mem_pulses.mpr ⟨hi, hdone⟩)
    obtain ⟨p, hp, hpdone, rfl⟩ := ioWait_next ht
    exact ⟨p, hp, hpdone, ht⟩
  refine ⟨fun s => ⟨htakes s, fun hi hnone => ioWait_stuck hi (pulses_eq_nil hnone), fun hi => if_pos hi,
    fun o ho hdone hothers => ?_⟩, rfl⟩
  obtain ⟨p, hp, hpdone, hexec⟩ := htakes s ⟨o, ho, hdone⟩
  have hpo : p = o := by
    by_contra hne
    exact Bool.false_ne_true ((hothers p hp hne).symm.trans hpdone)
  subst hpo
  refine ⟨_, hexec, ioWait_stuck (List.ne_nil_of_mem hp) (pulses_eq_nil fun q hq => ?_)⟩
  by_cases hqp : q = p
  · rw [hqp, devOf_setDev_same]
    rfl
  · rw [devOf_setDev_other hqp]
    exact hothers q hq hqp

end Sys2Proof.Machine

namespace Sys2Proof

open Machine

/-- Settles O52: the wait changes one device, a received answer what `received_eq` says. -/
theorem inOutFrame : Obligations.InOutFrame := by
  intro i s t hi h
  have hd : deviceOf i ≠ some .pdp1dInOut := by
    intro hd
    rw [exec_pdp1dInOut hd] at h
    cases h
  rw [exec_inOut hi hd] at h
  obtain ⟨hw, devs, rfl⟩ | ⟨o, d, r, hc, rfl⟩ := inOut_received h
  · exact ⟨rfl, rfl, rfl, rfl, rfl, rfl, rfl, .inl rfl, fun _ _ => rfl, fun o p hc => absurd hw (ne_ioh_of_claimants hc)⟩
  · have hmem (hblock : ∀ o, claimants s.cfg (encode i) = [o] → movesBlocks o = false) (a : Addr) :
        ({ s with drum := d }.received o (encode i) r).readWord a = s.readWord a := by
      rw [received_readWord, hblock o hc]
      rfl
    have hpc : ({ s with drum := d }.received o (encode i) r).pc = if r.skip then s.pc + 1 else s.pc := by
      rw [received_eq]
    refine ⟨?_, ?_, ?_, ?_, ?_, ?_, ?_, ?_, hmem, fun q p hq hp => ?_⟩
    case refine_8 =>
      rw [hpc]
      cases r.skip with
      | false => exact .inl rfl
      | true => exact .inr rfl
    case refine_9 =>
      obtain rfl : o = q := List.singleton_inj.mp (hc.symm.trans hq)
      exact (devOf_received_other hp (encode i) r :)
    all_goals rw [received_eq]

end Sys2Proof
end

section
/-! PROOFS. The rows of a group agree with the group's rule (30_encoding.md section 4), and what stops the base machine: the
spare codes and the endless chains alone (60_exceptions.md rules R360, R361). -/

namespace Sys2Proof.Machine

/-! ### Rows and groups -/

theorem exec_ite {c : Prop} [Decidable c] {i j : Instr} {s : State} {o : Out} (h : c → exec i s = o)
    (h' : ¬c → exec j s = o) : exec (if c then i else j) s = o := by
  split
  · exact h ‹_›
  · exact h' ‹_›

/-- The bits of `clf f` and `stf f`: bit 14 and the flag number alone. -/
theorem flagWord_bits : ∀ (v : Bool) (f : BitVec 3), ∀ high : BitVec 10, high = (if v then 1 else 0) →
    (∀ k < 14, bit k (high ++ f) = false) ∧ bit 14 (high ++ f) = v ∧ (high ++ f).extractLsb' 0 3 = f := by
  simp only [forall_eq]
  decide

theorem exec_opr_flag (s : State) (v : Bool) (f : BitVec 3) {high : BitVec 10} (h : high = if v then 1 else 0) :
    exec (.opr (high ++ f)) s = .next (s.setFlags f v) := by
  obtain ⟨hclear, hv, hf⟩ := flagWord_bits v f high h
  rw [operateUnion]
  simp [hclear, hv, hf, State.setFlags]

/-- An operate word does what the row its bits decode to does (rules R87, R161). -/
theorem exec_decodeOperate (s : State) (bits : BitVec 13) :
    exec (decodeOperate s.cfg bits) s = exec (.opr bits) s := by
  obtain ⟨hcla, hcli, hcma, hhlt, hnop⟩ := operateSingles.1 s
  obtain ⟨hlap, hlat, htransfer⟩ := transferInstructions.1 s
  obtain ⟨hlia, hlai, hswp, hcmi⟩ := exchangeInstructions.1 s
  unfold decodeOperate
  refine exec_ite ?nop fun _ => exec_ite ?clf fun _ => exec_ite ?stf fun _ => exec_ite ?lap fun _ => exec_ite ?cla fun _ =>
    exec_ite ?hlt fun _ => exec_ite ?cma fun _ => exec_ite ?transfer fun _ => exec_ite ?lat fun _ => exec_ite ?cli fun _ =>
    exec_ite ?lia fun _ => exec_ite ?lai fun _ => exec_ite ?swp fun _ => exec_ite ?cmi fun _ => rfl
  case clf => exact fun h => (exec_opr_flag s false _ rfl).symm.trans (congrArg (fun b => exec (.opr b) s) (flagBits_split h))
  case stf => exact fun h => (exec_opr_flag s true _ rfl).symm.trans (congrArg (fun b => exec (.opr b) s) (flagBits_split h))
  case nop | cla | hlt | cma | cli | lap | transfer | lat =>
    rintro rfl
    rw [operateUnion]
    simp [bit, setSelected, hcla, hcli, hcma, hhlt, hnop, hlap, hlat, htransfer]
  case lia | lai | swp | cmi =>
    rintro ⟨rfl, hp⟩
    rw [operateUnion]
    simp [bit, setSelected, hp, hlia, hlai, hswp, hcmi]

/-- A bit of the condition bits of a skip word. -/
theorem bit_ofBool_append (inv : Bool) (y : Addr) {k : Nat} (hk : 6 ≤ k) : bit k (BitVec.ofBool inv ++ y) = bit k y := by
  rw [bit, BitVec.getLsbD_append, if_pos (by omega)]
  rfl

/-- The conditions that the bits 6 to 17 of a skip word select (rule R180). -/
def selectedCondition (y : Addr) (s : State) : Bool :=
  (bit 11 y && s.acZero) || (bit 10 y && s.acPlus) || (bit 9 y && s.acMinus) || (bit 8 y && s.ovZero) ||
  (bit 7 y && s.ioPlus) || (s.cfg.pdp1d && bit 6 y && s.ioNonZero) ||
  selectedZero s.ss (y.extractLsb' 3 3) || selectedZero s.pf (y.extractLsb' 0 3)

theorem skipCondition_append (s : State) (inv : Bool) (y : Addr) :
    skipCondition (BitVec.ofBool inv ++ y) s = selectedCondition y s := by
  have hfield (start : Nat) (hs : start + 3 ≤ 12) :
      (BitVec.ofBool inv ++ y).extractLsb' start 3 = y.extractLsb' start 3 :=
    BitVec.extractLsb'_append_eq_of_add_le hs
  simp only [skipCondition, selectedCondition, bit_ofBool_append inv y (by decide : 6 ≤ 11),
    bit_ofBool_append inv y (by decide : 6 ≤ 10), bit_ofBool_append inv y (by decide : 6 ≤ 9),
    bit_ofBool_append inv y (by decide : 6 ≤ 8), bit_ofBool_append inv y (by decide : 6 ≤ 7),
    bit_ofBool_append inv y (by decide : 6 ≤ 6), hfield 0 (by decide), hfield 3 (by decide)]

theorem exec_skp_append (s : State) (inv : Bool) (y : Addr) : exec (.skp (BitVec.ofBool inv ++ y)) s =
    .next { s with pc := if selectedCondition y s != inv then s.pc + 1 else s.pc, ov := !bit 8 y && s.ov } := by
  rw [exec_skp, skipCondition_append, bit_five_ofBool_append, bit_ofBool_append inv y (by decide)]

/-- The bits of `szf f` and of `szs n`: the number alone. -/
theorem numberWord_bits : ∀ f : BitVec 3,
    ((∀ k, 6 ≤ k → k < 12 → bit k ((0 : BitVec 9) ++ f : Addr) = false) ∧
      ((0 : BitVec 9) ++ f : Addr).extractLsb' 3 3 = 0 ∧ ((0 : BitVec 9) ++ f : Addr).extractLsb' 0 3 = f) ∧
    (∀ k, 6 ≤ k → k < 12 → bit k ((0 : BitVec 6) ++ f ++ (0 : BitVec 3) : Addr) = false) ∧
      ((0 : BitVec 6) ++ f ++ (0 : BitVec 3) : Addr).extractLsb' 3 3 = f ∧
      ((0 : BitVec 6) ++ f ++ (0 : BitVec 3) : Addr).extractLsb' 0 3 = 0 := by
  have hcode (f : BitVec 3) (k : Nat) (h6 : 6 ≤ k) (h12 : k < 12) :
      bit k ((0 : BitVec 9) ++ f : Addr) = false ∧ bit k ((0 : BitVec 6) ++ f ++ (0 : BitVec 3) : Addr) = false := by
    revert f
    interval_cases k
    all_goals decide
  have hnumber : ∀ f : BitVec 3, (((0 : BitVec 9) ++ f : Addr).extractLsb' 3 3 = 0 ∧
      ((0 : BitVec 9) ++ f : Addr).extractLsb' 0 3 = f) ∧
      ((0 : BitVec 6) ++ f ++ (0 : BitVec 3) : Addr).extractLsb' 3 3 = f ∧
      ((0 : BitVec 6) ++ f ++ (0 : BitVec 3) : Addr).extractLsb' 0 3 = 0 := by decide
  intro f
  obtain ⟨hflag, hswitch⟩ := hnumber f
  exact ⟨⟨fun k h6 h12 => (hcode f k h6 h12).1, hflag⟩, fun k h6 h12 => (hcode f k h6 h12).2, hswitch⟩

/-- A row that skips on the condition which a skip word selects, and leaves OV, does what the word does. -/
theorem exec_skipRow {i : Instr} {s : State} {inv : Bool} {y : Addr}
    (hi : exec i s = .next (s.skipOn inv (selectedCondition y s))) (hov : bit 8 y = false) :
    exec i s = exec (.skp (BitVec.ofBool inv ++ y)) s := by
  rw [hi, exec_skp_append, hov, State.skipOn_eq]
  rfl

/-- A skip word does what the row its bits decode to does (rules R88, R180). -/
theorem exec_decodeSkip (s : State) (bits : BitVec 13) : exec (decodeSkip s.cfg bits) s = exec (.skp bits) s := by
  have hzero (c : Six) : selectedZero c 0#3 = false := rfl
  rw [← operandBits_split bits]
  generalize bit 5 bits = inv
  generalize bits.extractLsb' 0 12 = y
  rw [decodeSkip_append]
  refine exec_ite ?sza fun _ => exec_ite ?spa fun _ => exec_ite ?sma fun _ => exec_ite ?szo fun _ => exec_ite ?spi fun _ =>
    exec_ite ?pdp1d fun _ => exec_ite (fun _ => rfl) fun _ => exec_ite ?szf fun _ => exec_ite ?szs fun _ => rfl
  case sza | spa | sma | spi =>
    rintro rfl
    refine exec_skipRow (congrArg (fun c => Host.Outcome.next (s.skipOn inv c)) ?_) (by decide)
    simp [selectedCondition, bit, hzero]
  case szo =>
    rintro rfl
    rw [exec_szo, exec_skp_append]
    simp [selectedCondition, bit, hzero]
  case pdp1d =>
    rintro ⟨rfl, hp⟩
    have hc : s.ioNonZero = selectedCondition 0o4000 s := by simp [selectedCondition, bit, hzero, hp]
    refine exec_ite ?_ ?_
    · rintro rfl
      exact exec_skipRow (congrArg (fun c => Host.Outcome.next (s.skipOn true c)) hc) (by decide)
    · intro h
      rw [Bool.eq_false_iff.mpr h]
      exact exec_skipRow (congrArg (fun c => Host.Outcome.next (s.skipOn false c)) hc) (by decide)
  case szf =>
    intro h
    obtain ⟨⟨hclear, hswitch, -⟩, -⟩ := numberWord_bits (y.extractLsb' 0 3)
    rw [flagNumber_split h] at hclear hswitch
    refine exec_skipRow (congrArg (fun c => Host.Outcome.next (s.skipOn inv c)) ?_) (hclear 8 (by decide) (by decide))
    simp [selectedCondition, hclear, hswitch, hzero]
  case szs =>
    rintro ⟨h, h0⟩
    obtain ⟨-, hclear, -⟩ := numberWord_bits (y.extractLsb' 3 3)
    rw [switchNumber_split h h0] at hclear
    refine exec_skipRow (congrArg (fun c => Host.Outcome.next (s.skipOn inv c)) ?_) (hclear 8 (by decide) (by decide))
    simp [selectedCondition, hclear, h0, hzero]

/-- A PDP-1D in-out function stands for a word which the PDP-1D functions alone claim. -/
theorem claimants_of_pdp1dInOut {cfg : Config} {i : Instr} (h : wellFormed cfg i = true)
    (hd : deviceOf i = some .pdp1dInOut) : claimants cfg (encode i) = [.pdp1dInOut] := by
  cases i with
  | erg | lrg | lrm | erm | rnm | rsm | rck | ctb | rro | rri | gcf => exact soleClaim_iff.mp h
  | _ => exact absurd hd (by simp [deviceOf])

/-- An in-out row does what `iot` does with its word, and a PDP-1D function is refused as its word is. -/
theorem exec_eq_inOut {i : Instr} {s : State} (hwf : wellFormed s.cfg i = true) (hi : inOutInstr i = true) :
    exec i s = s.inOut (encode i) := by
  by_cases hd : deviceOf i = some .pdp1dInOut
  · rw [exec_pdp1dInOut hd, inOut_of_claimants (claimants_of_pdp1dInOut hwf hd)]
    rfl
  · exact exec_inOut hi hd s

/-- Settles O37: a well-formed instruction is what its word decodes to, and in each group the decoder's row does what the
group's rule does. -/
theorem groupRowsAgreeWithGroup : Obligations.GroupRowsAgreeWithGroup := by
  intro i s hwf
  have hgroup {op : BitVec 5} (hop : opField (encode i) = op) : groupWord op (operandBits (encode i)) = encode i := by
    rw [← hop, groupWord_fields]
  have hdecode := decode_encode hwf
  refine ⟨fun hop => ?_, fun hop => ?_, fun hop => ?_, fun hop => ?_⟩
  · rw [← hgroup hop, decode_operate_group] at hdecode
    nth_rewrite 1 [← hdecode]
    exact exec_decodeOperate s _
  · rw [← hgroup hop, decode_skip_group] at hdecode
    nth_rewrite 1 [← hdecode]
    exact exec_decodeSkip s _
  · have hshift : decode s.cfg (encode i) = decodeShift (operandBits (encode i)) := by
      simp [decode, hop]
    nth_rewrite 1 [← hdecode, hshift]
    exact (exec_sft_eq_decodeShift s _).symm
  · rw [exec_eq_inOut hwf (beq_iff_eq.mpr hop)]
    show _ = s.inOut (mkWord 29 _ _)
    rw [← hop, mkWord_fields]

end Sys2Proof.Machine
end

section
/-! PROOFS. What stops the base machine (60_exceptions.md rules R360, R361): a spare code halts it, an endless chain sticks
it, and every other instruction completes. -/

namespace Sys2Proof.Machine

/-- On a PDP-1 the words of the codes 00, 12, 14, 36 and 74 halt (rule R92). -/
theorem exec_decode_spare {cfg : Config} (hp : cfg.pdp1d = false) {w : Word}
    (hop : (opField w).toNat ∈ [0, 5, 6, 15, 30]) (s : State) : exec (decode cfg w) s = .next s.halt := by
  simp only [List.mem_cons, List.not_mem_nil, or_false] at hop
  rcases hop with h | h | h | h | h
  all_goals
    simp only [decode, h, hp]
    rfl

/-- Settles O32: a spare code halts, and a step at its word runs it (`step_of_running`). -/
theorem spareCodesHalt : Obligations.SpareCodesHalt := by
  refine ⟨fun rest s => ⟨rfl, rfl, rfl, rfl, rfl⟩, fun s hrun hbreak hp hop => ?_⟩
  rw [step_of_running hrun hbreak, exec_decode_spare hp hop]
  rfl

/-- The outcome is a next state. -/
def completes (o : Out) : Prop := ∃ t, o = .next t

/-- An instruction with an address completes, or its defer chain is endless. -/
theorem completes_withAddress {i : Bool} {y : Addr} {s : State} {k : Addr → State → Out}
    (h : ∀ e u, completes (k e u)) : completes (withAddress i y s k) ∨ withAddress i y s k = .fault .deferLoop := by
  obtain ⟨-, hk⟩ | ⟨e, w, -, hk⟩ := withAddress_cases i y s k
  · exact .inr hk
  · exact .inl (hk.symm ▸ h e _)

/-- The PDP-1 instructions that defer no address, other than in-out transfers, complete. -/
theorem completes_of_no_address {i : Instr} {s : State} (hp : s.cfg.pdp1d = false) (hwf : wellFormed s.cfg i = true)
    (hio : inOutInstr i = false) (hd : deferParts i = none) : completes (exec i s) := by
  have h1d {P : Prop} (h : s.cfg.pdp1d = true) : P := absurd (hp.symm.trans h) Bool.false_ne_true
  cases i with
  | and | ior | xor | xct | lac | lio | dac | dap | dip | dio | dzm | add | sub | idx | isp | sad | sas | mus | mul | dis
  | div | jmp | jsp => cases hd
  | lch | dch | tad | ifi | idc | ida | scm | sci | scf | szl | cll | cml => exact h1d hwf
  | special => exact h1d (Bool.and_eq_true_iff.mp hwf).1
  | sft bits => exact ⟨_, exec_sft s bits⟩
  | cal | jda | law | lawNeg | spare00 | spare12 | spare14 | spare36 | spare74 | skp | sma | spa | spi | sza | szo | szf
  | szs | sni | szi | ral | rar | rcl | rcr | ril | rir | sal | sar | scl | scr | sil | sir | sftNoRegister | opr | nop | cla
  | cli | cma | hlt | lap | lat | clf | stf | lia | lai | swp | cmi => exact ⟨_, rfl⟩
  | ioh => cases hio
  | _ => exact absurd (inOutInstr_of_encode rfl) (Bool.eq_false_iff.mp hio)

/-- An instruction other than `xct` completes, or its defer chain is endless. -/
theorem completes_or_deferLoop {i : Instr} {s : State} (hp : s.cfg.pdp1d = false) (hwf : wellFormed s.cfg i = true)
    (hio : inOutInstr i = false) (hx : ∀ j z, i ≠ .xct j z) :
    completes (exec i s) ∨ exec i s = .fault .deferLoop := by
  cases hd : deferParts i with
  | none => exact .inl (completes_of_no_address hp hwf hio hd)
  | some d =>
    cases i with
    | xct j z => exact absurd rfl (hx j z)
    | lch | dch | tad => cases hd
    | mul | div =>
      refine completes_withAddress fun e u => ?_
      dsimp only
      split
      all_goals exact ⟨_, rfl⟩
    | and | ior | xor | lac | lio | dac | dap | dip | dio | dzm | add | sub | idx | isp | sad | sas | mus | dis | jmp
    | jsp => exact completes_withAddress fun e u => ⟨_, rfl⟩
    | _ => cases hd

/-- A chain of `xct` that reaches no instruction is endless, or stands at an endless defer chain. -/
theorem xctTarget_error {fuel : Nat} {i : Bool} {y : Addr} {s : State} {f : Fault}
    (h : xctTarget fuel i y s = .error f) : f = .deferLoop ∨ f = .xctLoop := by
  induction fuel generalizing i y s with
  | zero => exact .inr (Except.error.inj h).symm
  | succ n ih =>
    unfold xctTarget at h
    split at h
    · exact .inl (Except.error.inj h).symm
    · split at h
      · exact ih h
      · cases h

/-- Settles O59: `completes_or_deferLoop`, for the instruction that an `xct` reaches too, which is well-formed for it is
decoded. -/
theorem noInstructionTraps : Obligations.NoInstructionTraps := by
  intro i s hp _ hwf hio
  by_cases hx : ∃ d y, i = .xct d y
  · obtain ⟨d, y, rfl⟩ := hx
    refine ⟨?_, nofun⟩
    show (∃ t, execXct d y s = .next t) ∨ execXct d y s = _ ∨ execXct d y s = _
    unfold execXct
    rw [performedBy] at hio
    cases htarget : xctTarget (memoryWords + 1) d y s with
    | error f =>
      rcases xctTarget_error htarget with rfl | rfl
      · exact .inr (.inl rfl)
      · exact .inr (.inr rfl)
    | ok p =>
      obtain ⟨x, s1⟩ := p
      rw [htarget] at hio
      obtain ⟨e, rfl, rfl, hne⟩ := xctTarget_ok _ htarget
      dsimp only
      rw [performed_eq_exec _ _ hne]
      rcases completes_or_deferLoop (s := s.afterRead e) hp (decode_sound _).1 hio hne with h | h
      · exact .inl h
      · exact .inr (.inl h)
  · have hne : ∀ j z, i ≠ .xct j z := fun j z h => hx ⟨j, z, h⟩
    rw [performedBy_of_ne_xct hne] at hio
    refine ⟨?_, completes_of_no_address hp hwf hio⟩
    rcases completes_or_deferLoop hp hwf hio hne with h | h
    · exact .inl h
    · exact .inr (.inl h)

end Sys2Proof.Machine
end
